-- ==== Sys2Proof/Word.lean ====
section
/-! DEFINITION. The two widths of the block's data (00_scope.md R5, R6): bytes and 16-bit words. Bit 7 of a byte is
the most significant; every quantity is unsigned. -/

namespace Sys2Proof

/-- An 8-bit value; bit `i` is `v.getLsbD i`, bit 7 the most significant (R6). -/
abbrev Byte := BitVec 8

/-- A 16-bit value: a command word (R87) or a measurement value (R28, R29). -/
abbrev Half := BitVec 16

end Sys2Proof
end

