-- ==== Sys2Proof/Config.lean ====
section
/-! DEFINITION. The implementation parameters of 00_scope.md R5, and the free values. What the spec fixes is a
definition; what it leaves OPEN or unspecified is an `opaque` constant without a body, so that no proof can see it. -/

namespace Sys2Proof

/-- The payload the Digital Line Interface reports with a failure: opaque, "propagated verbatim" (R33, R221, D25).
DESIGN CHOICE (log entry 4): a token, which the block only copies. -/
structure Payload where
  token : Nat
  deriving DecidableEq, Repr, Inhabited

/-- `SENSOR_PULL` (R37 a): whether something outside the block is pulling DATA low at the moment of a sample. -/
inductive Pull where
  | pullLow
  | float
  deriving DecidableEq, Repr, Inhabited

/-- The answer of the Digital Line Interface to one `open`, `write` or `read` (R37 b, R126). -/
inductive Answer where
  | ok
  | fail (info : Payload)
  deriving DecidableEq, Repr, Inhabited

namespace Config

/-- `CRC_POLY` (R5). -/
def crcPoly : Byte := 0x31

/-- `CRC_INIT` (R5). -/
def crcInit : Byte := 0x00

/-- `CMD_SOFT_RESET` (R5, R68). -/
def cmdSoftReset : Byte := 0x1E

/-- `N_RESET_CLOCKS` (R5). -/
def nResetClocks : Nat := 9

/-- `N_POLL` (R5, C1, R271). -/
def nPoll : Nat := 62

/-- `T_POLL` = 5 ms, in nanoseconds (R5; the unit is the model's, log entry 3). -/
def tPollNs : Nat := 5000000

/-- `T_SHORT`: OPEN, a positive duration (R5, D12), in nanoseconds (log entry 3). -/
opaque tShortNs : ℕ+

/-- `T_LONG`: OPEN, a positive duration (R5, D12), in nanoseconds (log entry 3). -/
opaque tLongNs : ℕ+

/-- `MT_BYTE_T`: OPEN (R5, D13, U16); the default `0x03` is general knowledge and is not used (log entry 2). -/
opaque mtByteT : Byte

/-- `MT_BYTE_H`: OPEN (R5, D13, U16); the default `0x05` is general knowledge and is not used (log entry 2). -/
opaque mtByteH : Byte

/-- The level pulled at a sample once the scripted feed has run dry (R37 a, U14): free (log entry 5). -/
opaque freePull : Nat → Pull

/-- The interface's answer once the scripted feed has run dry (R37 b, U15): free (log entry 5). -/
opaque freeAnswer : Nat → Answer

/-- The bit a sample returns while `DAT` is `ASSERT_LOW` or `X` (R120, U4): free (log entry 6). -/
opaque freeBit : Nat → Bool

end Config

end Sys2Proof
end

