-- ==== Sys2Proof/Syntax.lean ====
section
/-! DEFINITION. The instructions, one constructor for each row of spec/opcode_table.json, and the lines of pseudocode
the sequencer position `PC` is made of (10_state.md R31). -/

namespace Sys2Proof

/-- Measurement Type: the quantity selector `q` (R89 c), 0 temperature, 1 humidity. -/
inductive Quantity where
  | temperature
  | humidity
  deriving DecidableEq, Repr, Inhabited

/-- Who issues an instruction: the host through the command port (R87), or the engine alone (R91). -/
inductive Layer where
  | command
  | micro
  deriving DecidableEq, Repr

/-- The 14 host commands (R88) and the 12 micro-operations (R91). -/
inductive Instr where
  /-- `INITIALIZE`, R161 -/
  | initLines
  /-- `SHUTDOWN`, R162 -/
  | shutdown
  /-- `RESET`, the bus reset, R166 -/
  | reset
  /-- `TSTART`, R163 -/
  | tstart
  /-- `SEND_BYTE v`, R164 -/
  | sendByte (v : Byte)
  /-- `RECV_BYTE a`, R165: `ack = true` is `ACK` -/
  | recvByte (ack : Bool)
  /-- `START_MEAS q`, R167 -/
  | startMeas (q : Quantity)
  /-- `AWAIT_READ`, R168 -/
  | awaitRead
  /-- `READ q`, R200 -/
  | read (q : Quantity)
  /-- `READ_ALL`, R201 -/
  | readAll
  /-- `CRC_RESET`, R143 -/
  | crcReset
  /-- `CRC_UPDATE v`, R144 -/
  | crcUpdate (v : Byte)
  /-- `CRC_VALUE`, R145 -/
  | crcValue
  /-- `CRC_VERIFY v`, R146 -/
  | crcVerify (v : Byte)
  /-- `WS`, short delay, R112 -/
  | ws
  /-- `WL`, long delay, R113 -/
  | wl
  /-- `WP`, poll-interval delay, R114 -/
  | wp
  /-- `CKO`, configure CLOCK as an output, R115 -/
  | cko
  /-- `CKL`, drive CLOCK LOW, R116 -/
  | ckl
  /-- `CKH`, drive CLOCK HIGH, R117 -/
  | ckh
  /-- `DTL`, assert DATA low, R118 -/
  | dtl
  /-- `DTH`, release DATA, R119 -/
  | dth
  /-- `DRD`, sample DATA, R120 -/
  | drd
  /-- `CLS`, close both lines, R121 -/
  | cls
  /-- `CRS`, reset the accumulator, R143 -/
  | crs
  /-- `CUP(v)`, accumulate a byte, R144; the byte comes from the issuing sequence -/
  | cup (v : Byte)
  deriving DecidableEq, Repr

/-- The layer an instruction belongs to (R80, R87, R91). -/
def Instr.layer : Instr → Layer
  | .initLines | .shutdown | .reset | .tstart | .sendByte _ | .recvByte _ | .startMeas _ => .command
  | .awaitRead | .read _ | .readAll | .crcReset | .crcUpdate _ | .crcValue | .crcVerify _ => .command
  | .ws | .wl | .wp | .cko | .ckl | .ckh | .dtl | .dth | .drd | .cls | .crs | .cup _ => .micro

/-- One line of the pseudocode of 42_protocol_engine.md and 43_orchestrator.md still to be executed. The first four
constructors execute one micro-operation; the others are control lines, which execute none. `PC` is a list of these,
the line to run next first: "a list of remaining micro-operations with continuations" (R31). -/
inductive Stmt where
  /-- `exec(u)` -/
  | exec (u : Instr)
  /-- `if v[i] = 1 then exec(DTH) else exec(DTL)`, with `i` = `BITCNT` (R164) -/
  | execDataBit (v : Byte)
  /-- `exec(CUP(HI))` (R168) -/
  | execCupHi
  /-- `exec(CUP(LO))` (R168) -/
  | execCupLo
  /-- end of a round of SEND_BYTE's loop over `i` (R164) -/
  | sendNext (v : Byte)
  /-- `if d = 1: raise NotAcknowledged` (R164) -/
  | ackTest
  /-- `if d = 1: RXB <- RXB | (1 << i)` (R165) -/
  | recvOr
  /-- end of a round of RECV_BYTE's loop over `i` (R165) -/
  | recvNext
  /-- `STATUS.RX_VALID <- 1` (R165) -/
  | recvDone
  /-- start of RESET's loop of clock pulses (R166) -/
  | pulseStart
  /-- end of a round of RESET's loop (R166) -/
  | pulseNext
  /-- end of a poll attempt: count it, leave the loop on LOW, else test the bound (R168) -/
  | pollNext
  /-- `HI <- RXB` (R168) -/
  | hiFromRxb
  /-- `LO <- RXB` (R168) -/
  | loFromRxb
  /-- `CHK <- RXB` (R168) -/
  | chkFromRxb
  /-- the comparison of `CHK` with `mirror8(CRC)` and what follows it (R168) -/
  | checksum
  /-- `t <- VAL` (R201) -/
  | saveTemperature
  /-- `h <- VAL ; RAW_T <- t ; RAW_H <- h ; PAIR_VALID <- 1` (R201) -/
  | deliverPair
  /-- `STATUS.OPENED <- 1` (R161) -/
  | markOpened
  /-- `call TSTART` -/
  | callTstart
  /-- `call SEND_BYTE(v)` -/
  | callSendByte (v : Byte)
  /-- `call RECV_BYTE(a)` -/
  | callRecvByte (ack : Bool)
  /-- `call AWAIT_READ` -/
  | callAwaitRead
  /-- `call READ(q)` -/
  | callRead (q : Quantity)
  deriving DecidableEq, Repr

/-- Whether a line executes a micro-operation (the rest are control lines). -/
def Stmt.isMicro : Stmt → Bool
  | .exec _ | .execDataBit _ | .execCupHi | .execCupLo => true
  | _ => false

end Sys2Proof
end

