-- ==== Sys2Proof/Machine/State.lean ====
section
/-! DEFINITION. The state of the block (10_state.md R20 to R33), as plain data, the environment's feeds beside it, and
the state after power-on (R40). -/

namespace Sys2Proof.Machine

/-! ## Line drivers -/

/-- `CLK` (R21). There is no input value: "CLOCK is always an output". -/
inductive ClkDriver where
  | closed
  | x
  | low
  | high
  deriving DecidableEq, Repr

/-- `DAT` (R22). There is no value that drives DATA HIGH. -/
inductive DatDriver where
  | closed
  | x
  | assertLow
  | released
  deriving DecidableEq, Repr

/-! ## Registers -/

/-- The data registers (R25 to R29). -/
structure Regs where
  /-- `CRC`, the accumulator (R25) -/
  crc : Byte
  /-- `RXB`, the receive register (R26) -/
  rxb : Byte
  /-- `HI`, internal (R27) -/
  hi : Byte
  /-- `LO`, internal (R27) -/
  lo : Byte
  /-- `CHK`, internal (R27) -/
  chk : Byte
  /-- `VAL` (R28) -/
  val : Half
  /-- `RAW_T` (R29) -/
  rawT : Half
  /-- `RAW_H` (R29) -/
  rawH : Half
  deriving DecidableEq, Repr

/-- The loop counters (R30). -/
structure Counters where
  /-- `BITCNT`, 0 to 7 -/
  bitcnt : Nat
  /-- `CLKCNT`, 0 to 9 -/
  clkcnt : Nat
  /-- `ATTEMPT`, 0 to 62 -/
  attempt : Nat
  deriving DecidableEq, Repr

/-- The fields of `STATUS` (R32); the 8-bit word is a view (Machine/Flags.lean). -/
structure Flags where
  busy : Bool
  opened : Bool
  rxValid : Bool
  valValid : Bool
  pairValid : Bool
  crcOk : Bool
  deriving DecidableEq, Repr

/-- The kinds of error `ERR` can name (R220); no other code is ever written. -/
inductive ErrKind where
  | none
  | lineIo
  | notAcknowledged
  | timeout
  | checksumMismatch
  deriving DecidableEq, Repr

/-- The sequencer position `PC` (R31): the lines still to run, and the two locals of the pseudocode, the last sample
`d` (R164, R165, R168) and the temperature count `t` (R201), which live in it. -/
structure Seq where
  pc : List Stmt
  d : Bool
  t : Half
  deriving DecidableEq, Repr

/-! ## The environment -/

/-- What the environment will answer: scripted answers first, then `rest` for ever, or, where `rest` is `none`, a free
value each time. -/
structure Feed (α : Type) where
  queue : List α
  rest : Option α
  deriving DecidableEq, Repr

/-- The environment (R37): the model's own field (log entry 5). -/
structure Env where
  /-- `SENSOR_PULL` at the instants of the coming samples -/
  pulls : Feed Pull
  /-- the interface's answers to the coming fallible calls -/
  answers : Feed Answer
  /-- how many answers have been taken: each free value is drawn at a number of its own -/
  draws : Nat
  deriving DecidableEq, Repr

/-- How many delays have been executed: the ghost bound on elapsed time R41 allows (log entry 3). -/
structure Delays where
  short : Nat
  long : Nat
  poll : Nat
  deriving DecidableEq, Repr

/-! ## The state -/

/-- The state of the block, its host port and its environment. -/
structure State where
  /-- `CLK` (R21) -/
  clk : ClkDriver
  /-- `DAT` (R22) -/
  dat : DatDriver
  /-- data registers (R25 to R29) -/
  regs : Regs
  /-- counters (R30) -/
  cnt : Counters
  /-- `STATUS` (R32) -/
  flags : Flags
  /-- `ERR` (R33) -/
  err : ErrKind
  /-- `ERRINFO` (R33) -/
  errInfo : Payload
  /-- `PC` (R31) -/
  seq : Seq
  /-- the environment (R37) -/
  env : Env
  /-- the command word on the command port (R87; log entry 10) -/
  port : Option Half
  /-- the words the host presents later, one at a time, each when the block is idle (R87; log entry 10) -/
  script : List Half
  /-- ghost (R41) -/
  delays : Delays
  deriving DecidableEq, Repr

/-- The state after power-on (R40, R250). Where R40 says "unspecified" the value is the model's, log entry 1; nothing
is scripted for the environment or the host (log entries 5, 10). -/
def State.reset : State where
  clk := .closed
  dat := .closed
  regs := ⟨0, 0, 0, 0, 0, 0, 0, 0⟩
  cnt := ⟨0, 0, 0⟩
  flags := ⟨false, false, false, false, false, false⟩
  err := .none
  errInfo := ⟨0⟩
  seq := ⟨[], false, 0⟩
  env := ⟨⟨[], none⟩, ⟨[], none⟩, 0⟩
  port := none
  script := []
  delays := ⟨0, 0, 0⟩

/-! ## Why a step, or a host read, has no next state -/

/-- A register whose value exists only while a flag is set (R34, R39). -/
inductive ResultReg where
  | rxb
  | val
  | rawT
  | rawH
  deriving DecidableEq, Repr

/-- The two lines (R60). -/
inductive BusLine where
  | clock
  | data
  deriving DecidableEq, Repr

/-- Faults. The block's own errors are no faults of the model: they are taken (R227). -/
inductive Fault where
  /-- Raised by a host read (`readReg`, never by `step`) of a result register whose valid flag is 0 (R39, U12): the
  register holds no value. Safe: no value is invented. -/
  | resultNotValid (r : ResultReg)
  deriving DecidableEq, Repr

/-- Refusals. Each but the first is one the spec itself asks for. -/
inductive Refusal where
  /-- Raised by `exec` for an instruction that has no meaning yet. Safe. No arm raises it. -/
  | notModelled (mnemonic : String)
  /-- Raised when a command is presented while `BUSY` = 1 (R238 a, U6). Safe. -/
  | commandWhileBusy
  /-- Raised for a bus command other than INITIALIZE and SHUTDOWN while `OPENED` = 0 (R238 b, U7). Safe. -/
  | linesNotOpened
  /-- Raised by `step` when the word on the port matches no row of R88 (R90, R238 c, U5). Safe. -/
  | reservedCommandWord (w : Half)
  /-- Raised by CKL, CKH, DTH, DRD on a line that is `CLOSED`: "not architected ... the model refuses it" (R123, R124,
  U7). No accepted command gets there (`Obligations.AcceptedCommandIsNeverRefused`). Safe. -/
  | lineClosed (line : BusLine)
  /-- Raised by a host read (`readReg`) of a register number 10 or above (R34, U5). Safe. -/
  | reservedRegister (n : Nat)
  deriving DecidableEq, Repr

end Sys2Proof.Machine
end

