-- ==== Sys2Proof/Machine/Operands.lean ====
section
/-! DEFINITION. The operand forms (30_encoding.md R89) and all the arithmetic the block does on data (41_crc.md R140 to
R142, R151). -/

namespace Sys2Proof.Machine

/-! ## Operands -/

/-- `MT_BYTE(q)`, the byte sent for a quantity (R89 c). -/
def mtByte : Quantity → Byte
  | .temperature => Config.mtByteT
  | .humidity => Config.mtByteH

/-- The bit of a byte operand that SEND_BYTE sends in round `i`, `v[i]` (R6, R164). -/
def bitOf (v : Byte) (i : Nat) : Bool := v.getLsbD i

/-- The loop index of the two byte loops: `for i from 7 downto 0` (R7). -/
def topBit : Nat := 7

/-! ## The accumulator's functions -/

/-- `crc_bit(a, b)` (R140). -/
def crcBit (a : Byte) (b : Bool) : Byte :=
  if a.getLsbD 7 ^^ b then (a <<< 1) ^^^ Config.crcPoly else a <<< 1

/-- `crc_update(a, v)`: the bits of `v` from 7 down to 0 (R141). -/
def crcUpdate (a v : Byte) : Byte :=
  [7, 6, 5, 4, 3, 2, 1, 0].foldl (fun acc i => crcBit acc (v.getLsbD i)) a

/-- The accumulator after a sequence of bytes: the left-to-right fold of R147. -/
def crcFold (a : Byte) (bytes : List Byte) : Byte := bytes.foldl crcUpdate a

/-- One round of D00's own wording of `update`: accumulator and byte are wide integers, the test is on bit 7 of their
XOR, and neither shift is truncated (R141). -/
def softwareRound (p : Nat × Nat) : Nat × Nat :=
  (if (p.1 ^^^ p.2).testBit 7 then (p.1 <<< 1) ^^^ Config.crcPoly.toNat else p.1 <<< 1, p.2 <<< 1)

/-- D00's wording of `update`: eight rounds, then "mask accumulator to 8 bits" (R141, C3). The engine does not use
it. -/
def softwareCrcUpdate (a v : Byte) : Byte :=
  BitVec.ofNat 8 ((softwareRound^[8] (a.toNat, v.toNat)).1 &&& 0xFF)

/-- `mirror8(v)`: `{v[0], v[1], ..., v[7]}` (R142). -/
def mirror8 (v : Byte) : Byte :=
  BitVec.ofBoolListBE [v.getLsbD 0, v.getLsbD 1, v.getLsbD 2, v.getLsbD 3,
    v.getLsbD 4, v.getLsbD 5, v.getLsbD 6, v.getLsbD 7]

/-! ## Assembly -/

/-- `r | (1 << i)` on a byte (R151 d). -/
def setBit (r : Byte) (i : Nat) : Byte := r ||| ((1 : Byte) <<< i)

/-- `{hi, lo}`: `hi` in bits 15:8 (R62, R151 e). -/
def compose (hi lo : Byte) : Half := hi ++ lo

/-! ## Levels and bits -/

/-- The sample of released DATA: `PULL_LOW` reads 0, `FLOAT` reads 1 (R8, R23, R120). -/
def pullBit : Pull → Bool
  | .pullLow => false
  | .float => true

/-- What must pull DATA for a sample to be the bit `b` (R8). -/
def pullFor (b : Bool) : Pull := if b then .float else .pullLow

/-- The eight levels of a byte in the order they are clocked, bit 7 first (R61); `bits(v)` of 95_test_vectors.md. -/
def bitsOf (v : Byte) : List Pull :=
  [7, 6, 5, 4, 3, 2, 1, 0].map (fun i => pullFor (v.getLsbD i))

end Sys2Proof.Machine
end

