-- ==== Sys2Proof/Machine/Flags.lean ====
section
/-! DEFINITION. The status flags (10_state.md R32), the error code (R33, R220) and the views of the state the host
reads as words: `STATUS`, `ERR`, `LINES` (R32, R33, R35). The block has no condition codes: no operation reads a flag
to decide what to do, but for the gating of R238. -/

namespace Sys2Proof.Machine

/-! ## Flag writes -/

/-- A command is accepted: `BUSY` set, `ERR` cleared (R32, R33, R87). -/
def accept (s : State) : State :=
  { s with flags := { s.flags with busy := true }, err := .none }

/-- A command completes: `BUSY` cleared, `PC` discarded (R31, R32). -/
def complete (s : State) : State :=
  { s with flags := { s.flags with busy := false }, seq := { s.seq with pc := [] } }

/-- Write `OPENED` (R161, R121). -/
def setOpened (b : Bool) (s : State) : State := { s with flags := { s.flags with opened := b } }

/-- Write `RX_VALID` (R165). -/
def setRxValid (b : Bool) (s : State) : State := { s with flags := { s.flags with rxValid := b } }

/-- Write `VAL_VALID` (R168, R200, R201). -/
def setValValid (b : Bool) (s : State) : State := { s with flags := { s.flags with valValid := b } }

/-- Write `PAIR_VALID` (R201). -/
def setPairValid (b : Bool) (s : State) : State := { s with flags := { s.flags with pairValid := b } }

/-- Write `CRC_OK` (R146, R168). -/
def setCrcOk (b : Bool) (s : State) : State := { s with flags := { s.flags with crcOk := b } }

/-- The comparison of a received checksum byte with the accumulator: `v = mirror8(CRC)` (R146). -/
def checksumMatches (v : Byte) (s : State) : Bool := decide (v = mirror8 s.regs.crc)

/-! ## Views -/

/-- `STATUS` (R32): bit 0 `BUSY`, 1 `OPENED`, 2 `RX_VALID`, 3 `VAL_VALID`, 4 `PAIR_VALID`, 5 `CRC_OK`, 7:6 read as 0. -/
def statusWord (s : State) : Byte :=
  BitVec.ofBoolListLE [s.flags.busy, s.flags.opened, s.flags.rxValid, s.flags.valValid,
    s.flags.pairValid, s.flags.crcOk, false, false]

/-- The code of an error kind (R220). -/
def ErrKind.code : ErrKind → Byte
  | .none => 0
  | .lineIo => 1
  | .notAcknowledged => 2
  | .timeout => 3
  | .checksumMismatch => 4

/-- `CLK` as two bits (R35). -/
def ClkDriver.code : ClkDriver → BitVec 2
  | .closed => 0
  | .x => 1
  | .low => 2
  | .high => 3

/-- `DAT` as two bits (R35). -/
def DatDriver.code : DatDriver → BitVec 2
  | .closed => 0
  | .x => 1
  | .assertLow => 2
  | .released => 3

/-- `LINES` (R35): bits 1:0 `CLK`, bits 3:2 `DAT`, bits 7:4 read as 0. -/
def linesWord (s : State) : Byte := (0 : BitVec 4) ++ s.dat.code ++ s.clk.code

end Sys2Proof.Machine
end

