-- ==== Sys2Proof/Machine/Ops.lean ====
section
/-! DEFINITION. The shared operations: the environment's answers (10_state.md R37), the Digital Line Interface
(40_step_sequencer_line_driver.md R126), the abort, which is how an error is taken (60_exceptions.md R227), and the
starting of a command (R87, R238). -/

namespace Sys2Proof.Machine

/-! ## The environment's answers -/

/-- The next answer of a feed, and the feed after it; `free` is what it answers once it has run dry. -/
def Feed.take {α : Type} (f : Feed α) (free : α) : α × Feed α :=
  match f.queue, f.rest with
  | a :: q, _ => (a, { f with queue := q })
  | [], some a => (a, f)
  | [], none => (free, f)

/-- The interface's answer to the next fallible call (R37 b). -/
def Env.takeAnswer (e : Env) : Answer × Env :=
  let (a, f) := e.answers.take (Config.freeAnswer e.draws)
  (a, { e with answers := f, draws := e.draws + 1 })

/-- `SENSOR_PULL` at the instant of a sample (R37 a). -/
def Env.takePull (e : Env) : Pull × Env :=
  let (p, f) := e.pulls.take (Config.freePull e.draws)
  (p, { e with pulls := f, draws := e.draws + 1 })

/-! ## The Digital Line Interface -/

/-- A direction of a line (R126). -/
inductive Direction where
  | input
  | output
  deriving DecidableEq, Repr

/-- A level written to a line (R8). -/
inductive Level where
  | low
  | high
  deriving DecidableEq, Repr

/-- A call of the interface (R126). -/
inductive LineCall where
  | openLine (line : BusLine) (dir : Direction)
  | closeLine (line : BusLine)
  | setDirection (line : BusLine) (dir : Direction)
  | write (line : BusLine) (level : Level)
  | readLine (line : BusLine)
  deriving DecidableEq, Repr

/-- "Only the three that return a `Result` can fail: `open`, `write`, `read`" (R126). -/
def LineCall.fallible : LineCall → Bool
  | .openLine _ _ | .write _ _ | .readLine _ => true
  | .closeLine _ | .setDirection _ _ => false

/-- One call: a fallible one takes an answer of the environment, the others succeed. -/
def Env.call (c : LineCall) (e : Env) : Answer × Env :=
  if c.fallible then e.takeAnswer else (.ok, e)

/-- Calls in order, up to the first that fails (R110). -/
def Env.calls : List LineCall → Env → Answer × Env
  | [], e => (.ok, e)
  | c :: cs, e =>
    match Env.call c e with
    | (.ok, e') => Env.calls cs e'
    | (.fail p, e') => (.fail p, e')

/-- The interface calls of each micro-operation, in order (R126's table); `DTL` opens DATA when it is `CLOSED`
(R118, D18). Commands make none themselves. -/
def lineCalls (dat : DatDriver) : Instr → List LineCall
  | .cko => [.openLine .clock .output]
  | .ckl => [.write .clock .low]
  | .ckh => [.write .clock .high]
  | .dtl =>
    if dat = .closed then [.openLine .data .output, .write .data .low]
    else [.setDirection .data .output, .write .data .low]
  | .dth => [.setDirection .data .input]
  | .drd => [.readLine .data]
  | .cls => [.closeLine .clock, .closeLine .data]
  | _ => []

/-! ## The line drivers -/

/-- Write `CLK`. -/
def setClk (c : ClkDriver) (s : State) : State := { s with clk := c }

/-- Write `DAT`. -/
def setDat (d : DatDriver) (s : State) : State := { s with dat := d }

/-! ## The data registers -/

/-- Write `CRC` (R143, R144). -/
def setCrc (v : Byte) (s : State) : State := { s with regs := { s.regs with crc := v } }

/-- Write `RXB` (R165). -/
def setRxb (v : Byte) (s : State) : State := { s with regs := { s.regs with rxb := v } }

/-- Write the data registers (R25 to R29). -/
def setRegs (r : Regs) (s : State) : State := { s with regs := r }

/-- Write the counters (R30). -/
def setCnt (c : Counters) (s : State) : State := { s with cnt := c }

/-- The environment has answered (R37). -/
def setEnv (e : Env) (s : State) : State := { s with env := e }

/-- Count a delay (R41). -/
def setDelays (d : Delays) (s : State) : State := { s with delays := d }

/-- Write the local `t` of READ_ALL (R201). -/
def setTemp (t : Half) (s : State) : State := { s with seq := { s.seq with t := t } }

/-- Write the sample `d` (R120). -/
def setSample (d : Bool) (s : State) : State := { s with seq := { s.seq with d := d } }

/-- The sequencer position is `k` (R31). -/
def setPc (k : List Stmt) (s : State) : State := { s with seq := { s.seq with pc := k } }

/-! ## Taking an error -/

/-- What an error carries: `LineIoError` its payload, the others nothing (R220). -/
inductive Raised where
  | lineIo (info : Payload)
  | notAcknowledged
  | timeout
  | checksumMismatch
  deriving DecidableEq, Repr

/-- The kind written to `ERR` (R220). -/
def Raised.kind : Raised → ErrKind
  | .lineIo _ => .lineIo
  | .notAcknowledged => .notAcknowledged
  | .timeout => .timeout
  | .checksumMismatch => .checksumMismatch

/-- `ERRINFO` after the abort: the payload of a `LineIoError`, else unchanged (R227). -/
def Raised.info (old : Payload) : Raised → Payload
  | .lineIo p => p
  | _ => old

/-- The abort (R227): `ERR` and `ERRINFO` written, the three valid flags and `BUSY` cleared, `PC` discarded, nothing
else. There is no return from it (R229). -/
def abort (r : Raised) (s : State) : State :=
  { s with
    err := r.kind
    errInfo := r.info s.errInfo
    flags := { s.flags with busy := false, rxValid := false, valValid := false, pairValid := false }
    seq := { s.seq with pc := [] } }

/-! ## A line action -/

/-- A micro-operation that makes the calls `cs`: `onOk` if all succeed, else `onFail`, the partial effect its own rule
states, and the abort with the payload (R110, R126, R221). Either way there is a next state. -/
def lineAction (cs : List LineCall) (onOk onFail : State → State) (s : State) :
    Host.Outcome State Fault Refusal :=
  .next (match Env.calls cs s.env with
    | (.ok, e) => onOk (setEnv e s)
    | (.fail p, e) => abort (.lineIo p) (onFail (setEnv e s)))

/-- The sample a successful `read` of DATA gives (R120): what pulls DATA when it is released; a free bit when the block
is not releasing it (U4, log entry 6). -/
def sample (s : State) : State :=
  setSample (if s.dat = .released then pullBit s.env.takePull.1 else Config.freeBit s.env.draws)
    (setEnv s.env.takePull.2 s)

/-! ## Starting a command -/

/-- A command that is accepted in any state of the lines (R238): `begin` runs it up to its first micro-operation, or to
its end if it has none. -/
def startCommand (begin : State → State) (s : State) : Host.Outcome State Fault Refusal :=
  if s.flags.busy then .refused .commandWhileBusy else .next (begin (accept s))

/-- A bus command that needs the lines opened (R238 b, R253). -/
def startBusCommand (begin : State → State) (s : State) : Host.Outcome State Fault Refusal :=
  if s.flags.busy then .refused .commandWhileBusy
  else if s.flags.opened then .next (begin (accept s))
  else .refused .linesNotOpened

end Sys2Proof.Machine
end

