-- ==== Sys2Proof/Machine/Sequencer.lean ====
section
/-! DEFINITION. The pseudocode of every operation (42_protocol_engine.md, 43_orchestrator.md) as lines of `PC`, and the
control lines between the micro-operations (R171). In every `begin...` the argument `k` is what the caller runs
afterwards. -/

namespace Sys2Proof.Machine

/-! ## The micro-operations of each pattern -/

/-- The thirteen micro-operations of TSTART (R83, R163). -/
def tstartCode : List Stmt :=
  [.exec .ckh, .exec .ws, .exec .dtl, .exec .ws, .exec .ckl, .exec .ws, .exec .ckh,
    .exec .ws, .exec .dth, .exec .ws, .exec .ckl, .exec .ws, .exec .crs]

/-- A data slot of SEND_BYTE (R81, R164). -/
def sendSlot (v : Byte) : List Stmt :=
  [.exec .ckl, .exec .ws, .execDataBit v, .exec .ws, .exec .ckh, .exec .ws]

/-- The acknowledgment slot of SEND_BYTE (R81, R164). -/
def sendTail (v : Byte) : List Stmt :=
  [.exec .ckl, .exec .ws, .exec .dth, .exec .ws, .exec .ckh, .exec .ws, .exec .drd,
    .ackTest, .exec (.cup v), .exec .ckl, .exec .ws]

/-- A data slot of RECV_BYTE (R82, R165). -/
def recvSlot : List Stmt :=
  [.exec .ckh, .exec .ws, .exec .drd, .recvOr, .exec .ckl, .exec .ws]

/-- The acknowledgment slot of RECV_BYTE (R82, R165): no delay after `DTL` or `DTH` (C4). -/
def recvTail (ack : Bool) : List Stmt :=
  (if ack then [.exec .dtl] else []) ++ [.exec .ckh, .exec .ws, .exec .ckl, .exec .ws] ++
    (if ack then [.exec .dth] else []) ++ [.recvDone]

/-- One clock pulse of RESET (R84, R166). -/
def pulse : List Stmt := [.exec .ckh, .exec .ws, .exec .ckl, .exec .ws]

/-- One poll attempt of AWAIT_READ: delay, then sample (R168, D10). -/
def pollRound : List Stmt := [.exec .wp, .exec .drd, .pollNext]

/-- The readout of AWAIT_READ: three frames, the first two accumulated (R85, R168). -/
def readout : List Stmt :=
  [.callRecvByte true, .hiFromRxb, .execCupHi, .callRecvByte true, .loFromRxb, .execCupLo,
    .callRecvByte false, .chkFromRxb, .checksum]

/-! ## Beginning an operation -/

/-- INITIALIZE (R161). -/
def beginInitLines (k : List Stmt) (s : State) : State :=
  setPc ([.exec .wl, .exec .cko, .exec .ckl, .exec .dtl, .markOpened] ++ k) (setOpened false s)

/-- SHUTDOWN (R162). -/
def beginShutdown (k : List Stmt) (s : State) : State := setPc (.exec .cls :: k) s

/-- TSTART (R163). -/
def beginTstart (k : List Stmt) (s : State) : State := setPc (tstartCode ++ k) s

/-- SEND_BYTE (R164). -/
def beginSendByte (v : Byte) (k : List Stmt) (s : State) : State :=
  setPc (sendSlot v ++ .sendNext v :: (sendTail v ++ k))
    (setCnt { s.cnt with bitcnt := topBit } s)

/-- RECV_BYTE (R165). -/
def beginRecvByte (ack : Bool) (k : List Stmt) (s : State) : State :=
  setPc (recvSlot ++ .recvNext :: (recvTail ack ++ k))
    (setCnt { s.cnt with bitcnt := topBit } (setRxb 0x00 (setRxValid false s)))

/-- RESET (R166). -/
def beginReset (k : List Stmt) (s : State) : State :=
  setPc ([.exec .dth, .exec .ws, .pulseStart, .callTstart, .callSendByte Config.cmdSoftReset] ++ k) s

/-- START_MEAS (R167). -/
def beginStartMeas (q : Quantity) (k : List Stmt) (s : State) : State :=
  beginTstart (.callSendByte (mtByte q) :: k) s

/-- The top of AWAIT_READ's loop: `if ATTEMPT = N_POLL: raise Timeout`, else another attempt (R168). -/
def pollTop (k : List Stmt) (s : State) : State :=
  if s.cnt.attempt = Config.nPoll then abort .timeout s else setPc (pollRound ++ k) s

/-- AWAIT_READ (R168). -/
def beginAwaitRead (k : List Stmt) (s : State) : State :=
  pollTop (readout ++ k) (setCnt { s.cnt with attempt := 0 } (setValValid false s))

/-- READ (R200). -/
def beginRead (q : Quantity) (k : List Stmt) (s : State) : State :=
  beginStartMeas q (.callAwaitRead :: k) (setValValid false s)

/-- READ_ALL (R201). -/
def beginReadAll (k : List Stmt) (s : State) : State :=
  beginRead .temperature ([.saveTemperature, .callRead .humidity, .deliverPair] ++ k)
    (setValValid false (setPairValid false s))

/-! ## Control lines -/

/-- The micro-operation a line executes, its operand taken from the state (R144, R164, R168); `none` for a control
line. -/
def Stmt.micro (s : State) : Stmt → Option Instr
  | .exec u => some u
  | .execDataBit v => some (if bitOf v s.cnt.bitcnt then .dth else .dtl)
  | .execCupHi => some (.cup s.regs.hi)
  | .execCupLo => some (.cup s.regs.lo)
  | _ => none

/-- `if CHK = mirror8(CRC)`, the branch that succeeds (R168). -/
def deliverValue (s : State) : State :=
  setValValid true (setCrcOk true (setRegs { s.regs with val := compose s.regs.hi s.regs.lo } s))

/-- Run the control lines at the head of a position, up to the next line that executes a micro-operation, or to the end
of the command (R171). A `raise` aborts; a call or a further round stops at its first micro-operation. -/
def settle : List Stmt → State → State
  | [], s => complete s
  | .exec u :: k, s => setPc (.exec u :: k) s
  | .execDataBit v :: k, s => setPc (.execDataBit v :: k) s
  | .execCupHi :: k, s => setPc (.execCupHi :: k) s
  | .execCupLo :: k, s => setPc (.execCupLo :: k) s
  | .sendNext v :: k, s =>
    if s.cnt.bitcnt = 0 then settle k s
    else setPc (sendSlot v ++ .sendNext v :: k) (setCnt { s.cnt with bitcnt := s.cnt.bitcnt - 1 } s)
  | .ackTest :: k, s => if s.seq.d then abort .notAcknowledged s else settle k s
  | .recvOr :: k, s =>
    settle k (if s.seq.d then setRxb (setBit s.regs.rxb s.cnt.bitcnt) s else s)
  | .recvNext :: k, s =>
    if s.cnt.bitcnt = 0 then settle k s
    else setPc (recvSlot ++ .recvNext :: k) (setCnt { s.cnt with bitcnt := s.cnt.bitcnt - 1 } s)
  | .recvDone :: k, s => settle k (setRxValid true s)
  | .pulseStart :: k, s => setPc (pulse ++ .pulseNext :: k) (setCnt { s.cnt with clkcnt := 1 } s)
  | .pulseNext :: k, s =>
    if s.cnt.clkcnt = Config.nResetClocks then settle k s
    else setPc (pulse ++ .pulseNext :: k) (setCnt { s.cnt with clkcnt := s.cnt.clkcnt + 1 } s)
  | .pollNext :: k, s =>
    if s.seq.d then pollTop k (setCnt { s.cnt with attempt := s.cnt.attempt + 1 } s)
    else settle k (setCnt { s.cnt with attempt := s.cnt.attempt + 1 } s)
  | .hiFromRxb :: k, s => settle k (setRegs { s.regs with hi := s.regs.rxb } s)
  | .loFromRxb :: k, s => settle k (setRegs { s.regs with lo := s.regs.rxb } s)
  | .chkFromRxb :: k, s => settle k (setRegs { s.regs with chk := s.regs.rxb } s)
  | .checksum :: k, s =>
    if checksumMatches s.regs.chk s then settle k (deliverValue s)
    else abort .checksumMismatch (setCrcOk false s)
  | .saveTemperature :: k, s => settle k (setTemp s.regs.val s)
  | .deliverPair :: k, s =>
    settle k (setPairValid true (setRegs { s.regs with rawT := s.seq.t, rawH := s.regs.val } s))
  | .markOpened :: k, s => settle k (setOpened true s)
  | .callTstart :: k, s => beginTstart k s
  | .callSendByte v :: k, s => beginSendByte v k s
  | .callRecvByte ack :: k, s => beginRecvByte ack k s
  | .callAwaitRead :: k, s => beginAwaitRead k s
  | .callRead q :: k, s => beginRead q k s

/-- After a micro-operation: the control lines that follow it, unless it aborted (R227). -/
def resume : Host.Outcome State Fault Refusal → Host.Outcome State Fault Refusal
  | .next s => .next (if s.flags.busy then settle s.seq.pc s else s)
  | .fault f => .fault f
  | .refused r => .refused r

end Sys2Proof.Machine
end

