-- ==== Sys2Proof/Machine/CrcCommands.lean ====
section
/-! DEFINITION. The meanings of the accumulator's host commands (41_crc.md section 2). They move no line and execute no
micro-operation, so each is accepted and completes in one step (log entry 9); they are accepted whether the lines are
opened or not (R238 b). -/

namespace Sys2Proof.Machine

/-- `CRC_RESET` (R143). -/
def execCrcReset (s : State) : Host.Outcome State Fault Refusal :=
  startCommand (fun s => complete (setCrc Config.crcInit s)) s

/-- `CRC_UPDATE v` (R144). -/
def execCrcUpdate (v : Byte) (s : State) : Host.Outcome State Fault Refusal :=
  startCommand (fun s => complete (setCrc (crcUpdate s.regs.crc v) s)) s

/-- `CRC_VALUE` (R145): "no state changes"; its result is `crcValue`, always readable as `CRC_VAL`. -/
def execCrcValue (s : State) : Host.Outcome State Fault Refusal := startCommand complete s

/-- `CRC_VERIFY v` (R146). -/
def execCrcVerify (v : Byte) (s : State) : Host.Outcome State Fault Refusal :=
  startCommand (fun s => complete (setCrcOk (checksumMatches v s) s)) s

end Sys2Proof.Machine
end

