-- ==== Sys2Proof/Machine/MicroOps.lean ====
section
/-! DEFINITION. The meanings of the twelve micro-operations (40_step_sequencer_line_driver.md, 41_crc.md). -/

namespace Sys2Proof.Machine

/-! ## Delays -/

/-- `WS` (R112): no state of the block changes; the ghost counts it (R41). -/
def execWs (s : State) : Host.Outcome State Fault Refusal :=
  .next (setDelays { s.delays with short := s.delays.short + 1 } s)

/-- `WL` (R113). -/
def execWl (s : State) : Host.Outcome State Fault Refusal :=
  .next (setDelays { s.delays with long := s.delays.long + 1 } s)

/-- `WP` (R114). -/
def execWp (s : State) : Host.Outcome State Fault Refusal :=
  .next (setDelays { s.delays with poll := s.delays.poll + 1 } s)

/-! ## CLOCK -/

/-- `CKO` (R115): `CLK` is `X` whether the `open` succeeds or fails. -/
def execCko (s : State) : Host.Outcome State Fault Refusal :=
  lineAction (lineCalls s.dat .cko) (setClk .x) (setClk .x) s

/-- `CKL` (R116); not architected on a `CLOSED` line (R124). -/
def execCkl (s : State) : Host.Outcome State Fault Refusal :=
  if s.clk = .closed then .refused (.lineClosed .clock)
  else lineAction (lineCalls s.dat .ckl) (setClk .low) (setClk .x) s

/-- `CKH` (R117); not architected on a `CLOSED` line (R124). -/
def execCkh (s : State) : Host.Outcome State Fault Refusal :=
  if s.clk = .closed then .refused (.lineClosed .clock)
  else lineAction (lineCalls s.dat .ckh) (setClk .high) (setClk .x) s

/-! ## DATA -/

/-- `DTL` (R118): from `CLOSED` it opens the line first. -/
def execDtl (s : State) : Host.Outcome State Fault Refusal :=
  lineAction (lineCalls s.dat .dtl) (setDat .assertLow) (setDat .x) s

/-- `DTH` (R119): cannot fail; not architected on a `CLOSED` line (R123). -/
def execDth (s : State) : Host.Outcome State Fault Refusal :=
  if s.dat = .closed then .refused (.lineClosed .data)
  else lineAction (lineCalls s.dat .dth) (setDat .released) id s

/-- `DRD` (R120): a failed `read` yields no sample and leaves the line as it was; not architected on a `CLOSED` line
(R123, U7). -/
def execDrd (s : State) : Host.Outcome State Fault Refusal :=
  if s.dat = .closed then .refused (.lineClosed .data)
  else lineAction (lineCalls s.dat .drd) sample id s

/-- `CLS` (R121): closes both lines and clears `OPENED`; cannot fail. -/
def execCls (s : State) : Host.Outcome State Fault Refusal :=
  lineAction (lineCalls s.dat .cls) (fun s => setOpened false (setDat .closed (setClk .closed s))) id s

/-! ## The accumulator -/

/-- `CRS` (R143). -/
def execCrs (s : State) : Host.Outcome State Fault Refusal := .next (setCrc Config.crcInit s)

/-- `CUP(v)` (R144). -/
def execCup (v : Byte) (s : State) : Host.Outcome State Fault Refusal :=
  .next (setCrc (crcUpdate s.regs.crc v) s)

end Sys2Proof.Machine
end

