-- ==== Sys2Proof/Machine/Orchestrator.lean ====
section
/-! DEFINITION. The meanings of the Measurement Orchestrator's host commands (43_orchestrator.md). -/

namespace Sys2Proof.Machine

/-- `READ q` (R200). -/
def execRead (q : Quantity) (s : State) : Host.Outcome State Fault Refusal :=
  startBusCommand (beginRead q []) s

/-- `READ_ALL` (R201). -/
def execReadAll (s : State) : Host.Outcome State Fault Refusal := startBusCommand (beginReadAll []) s

end Sys2Proof.Machine
end

