-- ==== Sys2Proof/Machine/Protocol.lean ====
section
/-! DEFINITION. The meanings of the Protocol Engine's host commands (42_protocol_engine.md). Executing a command
accepts it (R87) and loads its sequence; the sequence then runs one micro-operation a step (R31, R111). -/

namespace Sys2Proof.Machine

/-- `INITIALIZE` (R161): accepted whether the lines are opened or not (R238 b). -/
def execInitLines (s : State) : Host.Outcome State Fault Refusal := startCommand (beginInitLines []) s

/-- `SHUTDOWN` (R162): accepted whether the lines are opened or not (R238 b). -/
def execShutdown (s : State) : Host.Outcome State Fault Refusal := startCommand (beginShutdown []) s

/-- `RESET`, the bus reset (R166). -/
def execReset (s : State) : Host.Outcome State Fault Refusal := startBusCommand (beginReset []) s

/-- `TSTART` (R163). -/
def execTstart (s : State) : Host.Outcome State Fault Refusal := startBusCommand (beginTstart []) s

/-- `SEND_BYTE v` (R164). -/
def execSendByte (v : Byte) (s : State) : Host.Outcome State Fault Refusal :=
  startBusCommand (beginSendByte v []) s

/-- `RECV_BYTE a` (R165). -/
def execRecvByte (ack : Bool) (s : State) : Host.Outcome State Fault Refusal :=
  startBusCommand (beginRecvByte ack []) s

/-- `START_MEAS q` (R167). -/
def execStartMeas (q : Quantity) (s : State) : Host.Outcome State Fault Refusal :=
  startBusCommand (beginStartMeas q []) s

/-- `AWAIT_READ` (R168). -/
def execAwaitRead (s : State) : Host.Outcome State Fault Refusal := startBusCommand (beginAwaitRead []) s

end Sys2Proof.Machine
end

