-- ==== Sys2Proof/Machine/Dispatch.lean ====
section
/-! DEFINITION. One arm per instruction. -/

namespace Sys2Proof.Machine

def exec (i : Instr) (s : State) : Host.Outcome State Fault Refusal :=
  match i with
  | .initLines => Sys2Proof.Machine.execInitLines s
  | .shutdown => Sys2Proof.Machine.execShutdown s
  | .reset => Sys2Proof.Machine.execReset s
  | .tstart => Sys2Proof.Machine.execTstart s
  | .sendByte v => Sys2Proof.Machine.execSendByte v s
  | .recvByte ack => Sys2Proof.Machine.execRecvByte ack s
  | .startMeas q => Sys2Proof.Machine.execStartMeas q s
  | .awaitRead => Sys2Proof.Machine.execAwaitRead s
  | .read q => Sys2Proof.Machine.execRead q s
  | .readAll => Sys2Proof.Machine.execReadAll s
  | .crcReset => Sys2Proof.Machine.execCrcReset s
  | .crcUpdate v => Sys2Proof.Machine.execCrcUpdate v s
  | .crcValue => Sys2Proof.Machine.execCrcValue s
  | .crcVerify v => Sys2Proof.Machine.execCrcVerify v s
  | .ws => Sys2Proof.Machine.execWs s
  | .wl => Sys2Proof.Machine.execWl s
  | .wp => Sys2Proof.Machine.execWp s
  | .cko => Sys2Proof.Machine.execCko s
  | .ckl => Sys2Proof.Machine.execCkl s
  | .ckh => Sys2Proof.Machine.execCkh s
  | .dtl => Sys2Proof.Machine.execDtl s
  | .dth => Sys2Proof.Machine.execDth s
  | .drd => Sys2Proof.Machine.execDrd s
  | .cls => Sys2Proof.Machine.execCls s
  | .crs => Sys2Proof.Machine.execCrs s
  | .cup v => Sys2Proof.Machine.execCup v s

end Sys2Proof.Machine
end

