-- ==== Sys2Proof/WellFormed.lean ====
section
/-! DEFINITION. Well-formedness. The operands' types already hold R89 (a byte, one bit, one of two quantities), so what
is left to check is WHERE an instruction may stand: a command on the command port (R87), a micro-operation in the
sequencer (R91: "issued only by the engine, never by the host"). -/

namespace Sys2Proof

/-- `i` may be issued at layer `l`. -/
def Instr.wellFormedAt (l : Layer) (i : Instr) : Bool := decide (i.layer = l)

/-- A word on the command port may stand for `i` (R87, R91). -/
abbrev Instr.portable (i : Instr) : Bool := i.wellFormedAt .command

/-- A line of pseudocode executes only micro-operations by `exec` (R7: `exec(u)` executes micro-operation `u`). -/
def Stmt.wellFormed : Stmt → Bool
  | .exec u => u.wellFormedAt .micro
  | _ => true

/-- A sequencer position at rest between two steps: every line well-formed, and the next one executes a
micro-operation, so that each engine step is exactly one micro-operation (R31, R111). -/
def pcWellFormed : List Stmt → Bool
  | [] => true
  | st :: k => st.isMicro && st.wellFormed && k.all Stmt.wellFormed

end Sys2Proof
end

