-- ==== Sys2Proof/Decode.lean ====
section
/-! DEFINITION. Decoding and encoding: the host command word (30_encoding.md R87 to R90), the micro-operation codes
(R91), and the assembler spelling (R93). -/

namespace Sys2Proof

/-! ## What is decoded -/

/-- An encoded instruction: a 16-bit command word (R87), or a 4-bit micro-operation code together with the byte the
issuing sequence supplies (R91; zero where the operation takes none, log entry 14). -/
inductive Encoded where
  | command (w : Half)
  | micro (code : BitVec 4) (operand : Byte)
  deriving DecidableEq, Repr

/-- The layer of an encoding. -/
def Encoded.layer : Encoded → Layer
  | .command _ => .command
  | .micro _ _ => .micro

/-- Why an encoding stands for no instruction. -/
inductive DecodeError where
  /-- a command word that matches no row of R88 (R90) -/
  | reservedWord (w : Half)
  /-- a micro-operation code `0xC` to `0xF` (R91) -/
  | reservedCode (code : BitVec 4)
  /-- a byte supplied to a micro-operation that takes none (log entry 14) -/
  | strayOperand (code : BitVec 4) (operand : Byte)
  deriving DecidableEq, Repr

/-! ## The command word -/

/-- The `op` field, bits 15:8 (R87). -/
def opField (w : Half) : Byte := w.extractLsb' 8 8

/-- The `arg` field, bits 7:0 (R87). -/
def argField (w : Half) : Byte := w.extractLsb' 0 8

/-- The acknowledge flag `a` = `arg[0]` (R89 b). -/
def argAck (arg : Byte) : Bool := arg.getLsbD 0

/-- The quantity selector `q` = `arg[0]` (R89 c). -/
def argQuantity (arg : Byte) : Quantity := if arg.getLsbD 0 then .humidity else .temperature

/-- One row of R88's table: a word `w` selects the row when `w & mask = pattern`. -/
structure CommandRow where
  pattern : Half
  mask : Half
  build : Byte → Instr

/-- A word selects a row (R88). -/
def CommandRow.selects (r : CommandRow) (w : Half) : Bool := w &&& r.mask == r.pattern

/-- R88's table, row by row. -/
def commandRows : List CommandRow :=
  [ ⟨0x0100, 0xFFFF, fun _ => .initLines⟩,
    ⟨0x0200, 0xFFFF, fun _ => .shutdown⟩,
    ⟨0x0300, 0xFFFF, fun _ => .reset⟩,
    ⟨0x0400, 0xFFFF, fun _ => .tstart⟩,
    ⟨0x0500, 0xFF00, fun arg => .sendByte arg⟩,
    ⟨0x0600, 0xFFFE, fun arg => .recvByte (argAck arg)⟩,
    ⟨0x0700, 0xFFFE, fun arg => .startMeas (argQuantity arg)⟩,
    ⟨0x0800, 0xFFFF, fun _ => .awaitRead⟩,
    ⟨0x0900, 0xFFFE, fun arg => .read (argQuantity arg)⟩,
    ⟨0x0A00, 0xFFFF, fun _ => .readAll⟩ ] ++
  [ ⟨0x1000, 0xFFFF, fun _ => .crcReset⟩,
    ⟨0x1100, 0xFF00, fun arg => .crcUpdate arg⟩,
    ⟨0x1200, 0xFFFF, fun _ => .crcValue⟩,
    ⟨0x1300, 0xFF00, fun arg => .crcVerify arg⟩ ]

/-- The command a word stands for; a word that selects no row is reserved (R88, R90). -/
def decodeWord (w : Half) : Except DecodeError Instr :=
  match commandRows.find? (fun r => r.selects w) with
  | some r => .ok (r.build (argField w))
  | none => .error (.reservedWord w)

/-! ## The micro-operation code -/

/-- The micro-operations without a byte, by code (R91). -/
def microOfCode (code : BitVec 4) : Option Instr :=
  match code.toNat with
  | 0x0 => some .ws
  | 0x1 => some .wl
  | 0x2 => some .wp
  | 0x3 => some .cko
  | 0x4 => some .ckl
  | 0x5 => some .ckh
  | 0x6 => some .dtl
  | 0x7 => some .dth
  | 0x8 => some .drd
  | 0x9 => some .cls
  | 0xA => some .crs
  | _ => none

/-- The micro-operation a code and the byte supplied with it stand for (R91). -/
def decodeMicro (code : BitVec 4) (operand : Byte) : Except DecodeError Instr :=
  if code = 0xB then .ok (.cup operand)
  else match microOfCode code with
    | none => .error (.reservedCode code)
    | some u => if operand = 0 then .ok u else .error (.strayOperand code operand)

/-- Decoding at either layer. -/
def decode : Encoded → Except DecodeError Instr
  | .command w => decodeWord w
  | .micro code operand => decodeMicro code operand

/-! ## The host's reading of the opcode table -/

/-- An encoding read from the `nbits` low bits of a number, numbered as spec/opcode_table.json numbers them: up to 8
bits are a micro-operation code in bits 3:0 (the byte `CUP` takes has no bits in the table, so it is 0), more are a
command word. `none` where a bit above the format's width is set. -/
def encodedOfTable (nbits w : Nat) : Option Encoded :=
  if nbits ≤ 8 then
    if w < 16 then some (.micro (BitVec.ofNat 4 w) 0) else none
  else
    if w < 65536 then some (.command (BitVec.ofNat 16 w)) else none

/-- The instruction the decoder reads from an opcode-table word. -/
def decodeTableWord (nbits w : Nat) : Option Instr :=
  match encodedOfTable nbits w with
  | none => none
  | some e => (decode e).toOption

/-! ## Encoding -/

/-- `arg` for the acknowledge flag (R89 b). -/
def ackArg (ack : Bool) : Byte := if ack then 0x01 else 0x00

/-- `arg` for the quantity selector (R89 c). -/
def quantityArg : Quantity → Byte
  | .temperature => 0x00
  | .humidity => 0x01

/-- A command word from its two fields: `{op, arg}` (R87). -/
def commandWord (op arg : Byte) : Half := op ++ arg

/-- The encoding of an instruction (R88, R89, R91). -/
def encode : Instr → Encoded
  | .initLines => .command (commandWord 0x01 0x00)
  | .shutdown => .command (commandWord 0x02 0x00)
  | .reset => .command (commandWord 0x03 0x00)
  | .tstart => .command (commandWord 0x04 0x00)
  | .sendByte v => .command (commandWord 0x05 v)
  | .recvByte ack => .command (commandWord 0x06 (ackArg ack))
  | .startMeas q => .command (commandWord 0x07 (quantityArg q))
  | .awaitRead => .command (commandWord 0x08 0x00)
  | .read q => .command (commandWord 0x09 (quantityArg q))
  | .readAll => .command (commandWord 0x0A 0x00)
  | .crcReset => .command (commandWord 0x10 0x00)
  | .crcUpdate v => .command (commandWord 0x11 v)
  | .crcValue => .command (commandWord 0x12 0x00)
  | .crcVerify v => .command (commandWord 0x13 v)
  | .ws => .micro 0x0 0
  | .wl => .micro 0x1 0
  | .wp => .micro 0x2 0
  | .cko => .micro 0x3 0
  | .ckl => .micro 0x4 0
  | .ckh => .micro 0x5 0
  | .dtl => .micro 0x6 0
  | .dth => .micro 0x7 0
  | .drd => .micro 0x8 0
  | .cls => .micro 0x9 0
  | .crs => .micro 0xA 0
  | .cup v => .micro 0xB v

/-! ## Assembler spelling -/

/-- One hexadecimal digit, upper case. -/
def hexDigit (n : Nat) : Char := "0123456789ABCDEF".toList.getD n '?'

/-- A byte in the spelling of R93: `0x1E`. -/
def hexByte (v : Byte) : String :=
  "0x" ++ String.ofList [hexDigit (v.toNat / 16), hexDigit (v.toNat % 16)]

/-- The acknowledge flag's spelling (R93). -/
def ackText (ack : Bool) : String := if ack then "ACK" else "NACK"

/-- The quantity selector's spelling (R93). -/
def quantityText : Quantity → String
  | .temperature => "T"
  | .humidity => "H"

/-- The spelling of an instruction (R93): the mnemonic, then at most one operand; `CUP(v)` as in a trace. -/
def Instr.text : Instr → String
  | .initLines => "INITIALIZE"
  | .shutdown => "SHUTDOWN"
  | .reset => "RESET"
  | .tstart => "TSTART"
  | .sendByte v => "SEND_BYTE " ++ hexByte v
  | .recvByte ack => "RECV_BYTE " ++ ackText ack
  | .startMeas q => "START_MEAS " ++ quantityText q
  | .awaitRead => "AWAIT_READ"
  | .read q => "READ " ++ quantityText q
  | .readAll => "READ_ALL"
  | .crcReset => "CRC_RESET"
  | .crcUpdate v => "CRC_UPDATE " ++ hexByte v
  | .crcValue => "CRC_VALUE"
  | .crcVerify v => "CRC_VERIFY " ++ hexByte v
  | .ws => "WS"
  | .wl => "WL"
  | .wp => "WP"
  | .cko => "CKO"
  | .ckl => "CKL"
  | .ckh => "CKH"
  | .dtl => "DTL"
  | .dth => "DTH"
  | .drd => "DRD"
  | .cls => "CLS"
  | .crs => "CRS"
  | .cup v => "CUP(" ++ String.ofList [hexDigit (v.toNat / 16), hexDigit (v.toNat % 16)] ++ ")"

end Sys2Proof
end

