-- ==== Sys2Proof/Machine/Fetch.lean ====
section
/-! DEFINITION. Where the next instruction comes from: the sequencer position while a command runs (10_state.md R31),
the command port while the block is idle (30_encoding.md R87). -/

namespace Sys2Proof.Machine

/-- What the next step does. -/
inductive Fetched where
  /-- idle with no command presented: the block waits for the host (R251) -/
  | wait
  /-- no step: a refusal the spec asks for (R238) -/
  | refuse (r : Refusal)
  /-- the host's command `i`, taken from the port; the state is the one it runs in -/
  | command (i : Instr) (s : State)
  /-- the engine's next micro-operation; the state's `PC` is what follows it -/
  | micro (u : Instr) (s : State)
  /-- busy with no micro-operation at the head of `PC`: no reachable state (`Inv`); the control lines run alone -/
  | control
  deriving DecidableEq, Repr

/-- The host presents `w` to an idle block (R87, R90). -/
def present (w : Half) (s : State) : Fetched :=
  match decodeWord w with
  | .ok i => .command i s
  | .error _ => .refuse (.reservedCommandWord w)

/-- The next instruction. A word on the port of a busy block is refused (R238 a); the host's later words are presented
one at a time, each once the block is idle (R87, R111). -/
def fetch (s : State) : Fetched :=
  if s.flags.busy then
    match s.port, s.seq.pc with
    | some _, _ => .refuse .commandWhileBusy
    | none, [] => .control
    | none, st :: k =>
      match Stmt.micro s st with
      | some u => .micro u (setPc k s)
      | none => .control
  else
    match s.port, s.script with
    | some w, _ => present w { s with port := none }
    | none, w :: ws => present w { s with script := ws }
    | none, [] => .wait

/-- `s` with an encoded instruction where the next step fetches it: a command word on the port of an idle block, a
micro-operation at the head of `PC` of a busy one, with nothing after it. A reserved code, which is "never generated"
(R91), leaves `s` as it is. -/
def placeFetched (e : Encoded) (s : State) : State :=
  match e with
  | .command w => setPc [] { s with port := some w, flags := { s.flags with busy := false } }
  | .micro code operand =>
    match decodeMicro code operand with
    | .ok u => setPc [.exec u] { s with port := none, flags := { s.flags with busy := true } }
    | .error _ => s

end Sys2Proof.Machine
end

