-- ==== Sys2Proof/Machine/Step.lean ====
section
/-! DEFINITION. One step of the engine (40_step_sequencer_line_driver.md R110, R111). -/

namespace Sys2Proof.Machine

/-- One step: accept a command, or execute one micro-operation and the control lines after it, or wait. -/
def step (s : State) : Host.Outcome State Fault Refusal :=
  match fetch s with
  | .wait => .next s
  | .refuse r => .refused r
  | .command i t => exec i t
  | .micro u t => resume (exec u t)
  | .control => .next (settle s.seq.pc s)

/-- `s` with an opcode-table word where `step` fetches its next instruction. -/
def State.withFetchWord (s : State) (nbits w : Nat) : State :=
  match encodedOfTable nbits w with
  | some e => placeFetched e s
  | none => s

end Sys2Proof.Machine
end

