-- ==== Sys2Proof/Machine/HostView.lean ====
section
/-! DEFINITION. What the host and the wires see of the state: the register reads (10_state.md R34, R39), the result of
CRC_VALUE (R145), the wire levels (R23, R24), the ghost bound on elapsed time (R41, R270), and power-on during
operation (R250, R251). Nothing here is a step of the engine. -/

namespace Sys2Proof.Machine

/-! ## Register reads -/

/-- What a register read returns. -/
inductive RegValue where
  | byte (v : Byte)
  | half (v : Half)
  | info (p : Payload)
  deriving DecidableEq, Repr

/-- `value()`, the accumulator mirrored (R145): the result of CRC_VALUE and the register `CRC_VAL`. -/
def crcValue (s : State) : Byte := mirror8 s.regs.crc

/-- A result register while its flag is set; a fault of the host while it is clear (R39, U12). -/
def readResult (valid : Bool) (r : ResultReg) (v : RegValue) : Host.Outcome RegValue Fault Refusal :=
  if valid then .next v else .fault (.resultNotValid r)

/-- The host reads register number `n` (R34); a read changes no state. Numbers 10 and above are reserved (U5). -/
def readReg (n : Nat) (s : State) : Host.Outcome RegValue Fault Refusal :=
  match n with
  | 0 => .next (.byte (statusWord s))
  | 1 => .next (.byte s.err.code)
  | 2 => .next (.byte s.regs.crc)
  | 3 => .next (.byte (crcValue s))
  | 4 => readResult s.flags.rxValid .rxb (.byte s.regs.rxb)
  | 5 => readResult s.flags.valValid .val (.half s.regs.val)
  | 6 => readResult s.flags.pairValid .rawT (.half s.regs.rawT)
  | 7 => readResult s.flags.pairValid .rawH (.half s.regs.rawH)
  | 8 => .next (.byte (linesWord s))
  | 9 => .next (.info s.errInfo)
  | _ => .refused (.reservedRegister n)

/-! ## The wires -/

/-- The CLOCK wire (R24); `none` where the level is unspecified. -/
def clockWire (s : State) : Option Level :=
  match s.clk with
  | .low => some .low
  | .high => some .high
  | .x | .closed => none

/-- The DATA wire while the environment pulls as `p` (R23); `none` where the level is unspecified. -/
def dataWire (p : Pull) (s : State) : Option Level :=
  match s.dat with
  | .released => some (if pullBit p then .high else .low)
  | .assertLow => some .low
  | .x | .closed => none

/-! ## Time -/

/-- A lower bound on the nanoseconds the executed delays have taken (R41, R127, R270). -/
def elapsedAtLeast (s : State) : Nat :=
  s.delays.short * Config.tShortNs + s.delays.long * Config.tLongNs + s.delays.poll * Config.tPollNs

/-! ## Power-on -/

/-- The power-on event in any state (R250, R251): a fresh start; the environment and the host go on as they were (log
entry 18). -/
def powerOn (s : State) : State :=
  { State.reset with env := s.env, port := s.port, script := s.script, delays := s.delays }

end Sys2Proof.Machine
end

