-- ==== Sys2Proof/Safety.lean ====
section
/-! DEFINITION. The terms claims use: runs, the premises on the environment (10_state.md R37), the state a command may
be issued in, the invariant of the engine, and the discipline of samples (40_step_sequencer_line_driver.md R125 d). -/

namespace Sys2Proof.Machine

/-! ## Runs -/

/-- `n` steps lead from `s` to `t` (`runs_iff_core_run`: the host's `Core.run` says the same). -/
def Runs : Nat → State → State → Prop
  | 0, s, t => s = t
  | n + 1, s, t => ∃ r, step s = .next r ∧ Runs n r t

/-! ## Premises on the environment -/

/-- The feed's next answers are `l`, in order, whatever a free value would be. -/
def Feed.Begins {α : Type} : List α → Feed α → Prop
  | [], _ => True
  | a :: l, f => ∀ free : α, (f.take free).1 = a ∧ Feed.Begins l (f.take free).2

/-- `LineOk`: "every line operation succeeds" (R37 b, D28). -/
def LineOk (s : State) : Prop := ∀ n : Nat, Feed.Begins (List.replicate n Answer.ok) s.env.answers

/-- The next samples of DATA find it pulled as `tape` lists (R37 a): an answer tape (00_scope.md, glossary). -/
def Tape (tape : List Pull) (s : State) : Prop := Feed.Begins tape s.env.pulls

/-- The tape of a readout that is ready on attempt `k` and answers `hi`, `lo`, `chk` (R85, R168). -/
def readoutTape (k : Nat) (hi lo chk : Byte) : List Pull :=
  List.replicate (k - 1) .float ++ .pullLow :: (bitsOf hi ++ bitsOf lo ++ bitsOf chk)

/-! ## When a command may be issued -/

/-- The block is idle and no word stands on its port. -/
def Idle (s : State) : Prop := s.flags.busy = false ∧ s.port = none

/-- Idle, with the lines opened (R238 b, R256). The two conditions on the drivers hold wherever `OPENED` = 1 in a
reachable state (`Inv`). -/
def Ready (s : State) : Prop :=
  Idle s ∧ s.flags.opened = true ∧ s.clk ≠ .closed ∧ s.dat ≠ .closed

/-! ## The invariant of the engine -/

/-- A line of a transaction: any line of the pseudocode but those only INITIALIZE and SHUTDOWN have. -/
def Stmt.inTransaction : Stmt → Bool
  | .exec .ws | .exec .wp | .exec .ckl | .exec .ckh | .exec .dtl | .exec .dth => true
  | .exec .drd | .exec .crs | .exec (.cup _) => true
  | .exec _ => false
  | .markOpened => false
  | _ => true

/-- Where the end of a poll attempt may stand in `PC`: only in the attempt under way, with attempts left (R168). -/
def pollLegal (attempt : Nat) : List Stmt → Bool
  | .exec .wp :: .exec .drd :: .pollNext :: k => decide (attempt < Config.nPoll) && !k.contains .pollNext
  | .exec .drd :: .pollNext :: k => decide (attempt < Config.nPoll) && !k.contains .pollNext
  | k => !k.contains .pollNext

/-- The positions a running command can be at: inside INITIALIZE, inside SHUTDOWN, or inside a transaction, which has
its lines opened (R161, R162, R238 b). -/
def positionLegal (s : State) : Bool :=
  match s.seq.pc with
  | [] => true
  | [.exec .wl, .exec .cko, .exec .ckl, .exec .dtl, .markOpened] => !s.flags.opened
  | [.exec .cko, .exec .ckl, .exec .dtl, .markOpened] => !s.flags.opened
  | [.exec .ckl, .exec .dtl, .markOpened] => !s.flags.opened && decide (s.clk ≠ .closed)
  | [.exec .dtl, .markOpened] => !s.flags.opened && decide (s.clk ≠ .closed)
  | [.exec .cls] => true
  | k => s.flags.opened && k.all Stmt.inTransaction && pollLegal s.cnt.attempt k

/-- The invariant every step keeps. -/
structure Inv (s : State) : Prop where
  /-- `BUSY` is 1 exactly while there is a position (R31, R32) -/
  busy_iff : s.flags.busy = true ↔ s.seq.pc ≠ []
  /-- `ERR` is 0 while a command runs (R33) -/
  err_running : s.flags.busy = true → s.err = .none
  /-- `OPENED`: "`CLK` and `DAT` are both other than `CLOSED`" (R32) -/
  opened_lines : s.flags.opened = true → s.clk ≠ .closed ∧ s.dat ≠ .closed
  /-- the counters "count by one within fixed bounds and never wrap" (R30, R151) -/
  counters : s.cnt.bitcnt ≤ 7 ∧ s.cnt.clkcnt ≤ 9 ∧ s.cnt.attempt ≤ Config.nPoll
  /-- each engine step is one micro-operation (R31, R111) -/
  position : pcWellFormed s.seq.pc = true
  /-- the position is one of a command of the block -/
  legal : positionLegal s = true

/-! ## The discipline of samples -/

/-- Every sample ahead in a position, on the path where nothing fails, finds DATA released, and CLOCK HIGH, or LOW for a
poll sample (R125 d). `clk` and `dat` are the drivers where the position starts; after a data bit `dat` is taken to be
`X`, since it depends on the byte. A loop's last line asks for what its next round asks for. -/
def samplesDisciplined : ClkDriver → DatDriver → List Stmt → Bool
  | _, _, [] => true
  | clk, dat, .exec .drd :: .pollNext :: k =>
    decide (dat = .released) && decide (clk = .low) && samplesDisciplined clk dat k
  | clk, dat, .exec .drd :: k =>
    decide (dat = .released) && decide (clk = .high) && samplesDisciplined clk dat k
  | _, dat, .exec .cko :: k => samplesDisciplined .x dat k
  | _, dat, .exec .ckl :: k => samplesDisciplined .low dat k
  | _, dat, .exec .ckh :: k => samplesDisciplined .high dat k
  | clk, _, .exec .dtl :: k => samplesDisciplined clk .assertLow k
  | clk, _, .exec .dth :: k => samplesDisciplined clk .released k
  | _, _, .exec .cls :: k => samplesDisciplined .closed .closed k
  | clk, _, .execDataBit _ :: k => samplesDisciplined clk .x k
  | clk, _, .sendNext _ :: k => decide (clk = .high) && samplesDisciplined clk .x k
  | clk, dat, .recvNext :: k =>
    decide (dat = .released) && decide (clk = .low) && samplesDisciplined clk dat k
  | clk, dat, .pollNext :: k =>
    decide (dat = .released) && decide (clk = .low) && samplesDisciplined clk dat k
  | _, dat, .pulseStart :: k => samplesDisciplined .low dat k
  | clk, dat, .pulseNext :: k => decide (clk = .low) && samplesDisciplined clk dat k
  | _, _, .callTstart :: k => samplesDisciplined .low .released k
  | _, _, .callSendByte _ :: k => samplesDisciplined .low .released k
  | _, dat, .callRecvByte _ :: k => decide (dat = .released) && samplesDisciplined .low .released k
  | clk, dat, .callAwaitRead :: k =>
    decide (dat = .released) && decide (clk = .low) && samplesDisciplined .low .released k
  | _, _, .callRead _ :: k => samplesDisciplined .low .released k
  | clk, dat, _ :: k => samplesDisciplined clk dat k

/-- The samples ahead of a state are disciplined. -/
def Disciplined (s : State) : Prop := samplesDisciplined s.clk s.dat s.seq.pc = true

/-! ## What no operation looks at -/

/-- `s` with the four result flags cleared: what "no operation reads a flag to decide what to do" (R32) leaves. -/
def eraseResultFlags (s : State) : State :=
  { s with flags := { s.flags with rxValid := false, valValid := false, pairValid := false, crcOk := false } }

/-- Two outcomes that are the same but for the result flags. -/
def SameButResultFlags : Host.Outcome State Fault Refusal → Host.Outcome State Fault Refusal → Prop
  | .next s, .next t => eraseResultFlags s = eraseResultFlags t
  | .fault f, .fault g => f = g
  | .refused r, .refused q => r = q
  | _, _ => False

end Sys2Proof.Machine
end

