-- ==== Sys2Proof/Certificates/Slice0/Obligations.lean ====
section
/-! DEFINITION. The statements for the provers. Each docstring names the rules of spec/ it rests on; where a clause rests
on a choice of the model it names the log entry. In every statement about a run, `t` is the state the command's `exec`
answers and `u` the state the run ends in. -/

section

open Sys2Proof Sys2Proof.Machine

/-! ## Encoding -/

/-- Decoding undoes encoding, for every instruction and every operand (R88, R89, R91; log entry 14 for the byte of
`CUP`). -/
def Obligations.DecodeOfEncode : Prop := ∀ i : Instr, decode (encode i) = .ok i

/-- An encoding that decodes is the encoding of what it decodes to: each instruction has one encoding (R88 to R91; log
entry 14). -/
def Obligations.EncodeOfDecode : Prop := ∀ (e : Encoded) (i : Instr), decode e = .ok i → encode i = e

/-- R90: exactly the words it lists are reserved, and one presented to an idle block is refused, so no state changes.
(How the model refuses: log entry 11.) -/
def Obligations.ReservedWordsAreRefused : Prop :=
  ∀ w : Half,
    (decodeWord w = .error (.reservedWord w) ↔
      ((opField w).toNat = 0x00 ∨ (0x0B ≤ (opField w).toNat ∧ (opField w).toNat ≤ 0x0F) ∨
        0x14 ≤ (opField w).toNat) ∨
      ((opField w).toNat ∈ [0x01, 0x02, 0x03, 0x04, 0x08, 0x0A, 0x10, 0x12] ∧ argField w ≠ 0x00) ∨
      ((opField w).toNat ∈ [0x06, 0x07, 0x09] ∧ (argField w).toNat / 2 ≠ 0)) ∧
    (∀ s : State, s.flags.busy = false → s.port = some w → decodeWord w = .error (.reservedWord w) →
      step s = .refused (.reservedCommandWord w))

/-- Ten of the 25 words of 95_test_vectors.md section 6, eight commands and two reserved words, decode as listed there,
and so do the micro-operation code `0x8` and the reserved code `0xC` of R91. That the table's word of `CUP`, code `0xB`,
stands for `CUP` with the byte `0x00` is the model's choice (log entry 14): R91 gives the byte no bits. -/
def Obligations.SpecWordsDecode : Prop :=
  decodeWord 0x0100 = .ok .initLines ∧ decodeWord 0x051E = .ok (.sendByte 0x1E) ∧
  decodeWord 0x0601 = .ok (.recvByte true) ∧ decodeWord 0x0600 = .ok (.recvByte false) ∧
  decodeWord 0x0701 = .ok (.startMeas .humidity) ∧ decodeWord 0x0900 = .ok (.read .temperature) ∧
  decodeWord 0x0A00 = .ok .readAll ∧ decodeWord 0x131A = .ok (.crcVerify 0x1A) ∧
  decodeWord 0x0602 = .error (.reservedWord 0x0602) ∧ decodeWord 0x1400 = .error (.reservedWord 0x1400) ∧
  decodeTableWord 8 0x8 = some .drd ∧ decodeTableWord 8 0xB = some (.cup 0x00) ∧ decodeTableWord 8 0xC = none

/-! ## The accumulator's functions -/

/-- R140: shift left one place, and XOR `0x31` where the top bit differs from the data bit. -/
def Obligations.CrcBitShiftsAndXors : Prop :=
  ∀ (a : Byte) (b : Bool),
    crcBit a b =
      if a.getLsbD 7 = b then BitVec.ofNat 8 (2 * a.toNat) else BitVec.ofNat 8 (2 * a.toNat) ^^^ 0x31

/-- R141: `crc_update` feeds bits 7 to 0 to `crc_bit`, and D00's wide software loop, masked at the end, agrees with it
for every accumulator and byte. (That the two wordings agree is marked derived in R141.) -/
def Obligations.SoftwareLoopAgreesWithRegister : Prop :=
  ∀ a v : Byte,
    crcUpdate a v =
      crcBit (crcBit (crcBit (crcBit (crcBit (crcBit (crcBit (crcBit a (v.getLsbD 7)) (v.getLsbD 6))
        (v.getLsbD 5)) (v.getLsbD 4)) (v.getLsbD 3)) (v.getLsbD 2)) (v.getLsbD 1)) (v.getLsbD 0) ∧
    softwareCrcUpdate a v = crcUpdate a v

/-- R142: bit `i` of the mirror is bit `7 - i`; mirroring twice changes nothing; the rule's four examples. -/
def Obligations.MirrorReversesBits : Prop :=
  (∀ (v : Byte) (i : Nat), i ≤ 7 → (mirror8 v).getLsbD i = v.getLsbD (7 - i)) ∧
  (∀ v : Byte, mirror8 (mirror8 v) = v) ∧
  mirror8 0x01 = 0x80 ∧ mirror8 0x58 = 0x1A ∧ mirror8 0x0F = 0xF0 ∧ mirror8 0x81 = 0x81

/-- R148: `crc_update(a, v) = T[a ^ v]` with `T[x] = crc_update(0x00, x)`, and the consequences the rule draws. -/
def Obligations.CrcUpdateIsTableLookup : Prop :=
  (∀ a v : Byte, crcUpdate a v = crcUpdate 0x00 (a ^^^ v)) ∧
  (∀ a : Byte, crcUpdate a a = 0x00) ∧ crcUpdate 0x00 0x01 = 0x31

/-- R147: presenting CRC_RESET and then CRC_UPDATE for each byte of a sequence folds `crc_update` over it from zero,
and the value read is the mirrored table-driven result. (Model's choices: each of these commands takes one step, log
entry 9, and the host's words stand in the script, log entry 10.) -/
def Obligations.AccumulatingFoldsTheBytes : Prop :=
  ∀ (s : State) (bytes : List Byte), Idle s →
    s.script = commandWord 0x10 0x00 :: bytes.map (fun v => commandWord 0x11 v) →
    ∃ u, Runs (bytes.length + 1) s u ∧ u.flags.busy = false ∧ u.script = [] ∧
      u.regs = { s.regs with crc := bytes.foldl crcUpdate 0x00 } ∧
      crcValue u = mirror8 (bytes.foldl (fun a v => crcUpdate 0x00 (a ^^^ v)) 0x00)

/-! ## The accumulator's commands -/

/-- R143 to R146: CRC_RESET, CRC_UPDATE, CRC_VALUE and CRC_VERIFY complete in any idle state, opened or not, with these
effects and no other: no line, register, counter, flag but `CRC_OK`, or environment answer is touched. (That they take
one step is the model's choice, log entry 9.) -/
def Obligations.CrcCommandsComplete : Prop :=
  ∀ (s : State) (v : Byte), s.flags.busy = false →
    exec .crcReset s =
      .next { s with regs := { s.regs with crc := 0x00 }, err := .none, seq := { s.seq with pc := [] } } ∧
    exec (.crcUpdate v) s =
      .next { s with
        regs := { s.regs with crc := crcUpdate s.regs.crc v }, err := .none, seq := { s.seq with pc := [] } } ∧
    exec .crcValue s = .next { s with err := .none, seq := { s.seq with pc := [] } } ∧
    exec (.crcVerify v) s =
      .next { s with
        flags := { s.flags with crcOk := decide (v = mirror8 s.regs.crc) }
        err := .none
        seq := { s.seq with pc := [] } }

/-! ## Micro-operations -/

/-- R112 to R114, R127: the three delays always complete and change no state of the block; only the ghost count of
delays moves (R41, log entry 3). -/
def Obligations.DelaysChangeNoState : Prop :=
  ∀ s : State,
    exec .ws s = .next { s with delays := { s.delays with short := s.delays.short + 1 } } ∧
    exec .wl s = .next { s with delays := { s.delays with long := s.delays.long + 1 } } ∧
    exec .wp s = .next { s with delays := { s.delays with poll := s.delays.poll + 1 } }

/-- R124: the CLOCK line driver's transition table, complete: each row on success and on failure, what is not
architected refused, and `CLK` left alone by the delay, DATA and CRC micro-operations. (How the model refuses: log
entry 13.) -/
def Obligations.ClockDriverTable : Prop :=
  ∀ (s : State) (e : Env) (p : Payload),
    (s.env.takeAnswer = (.ok, e) → exec .cko s = .next { s with clk := .x, env := e }) ∧
    (s.env.takeAnswer = (.fail p, e) →
      exec .cko s = .next (abort (.lineIo p) { s with clk := .x, env := e })) ∧
    (s.clk = .closed →
      exec .ckl s = .refused (.lineClosed .clock) ∧ exec .ckh s = .refused (.lineClosed .clock)) ∧
    (s.clk ≠ .closed → s.env.takeAnswer = (.ok, e) →
      exec .ckl s = .next { s with clk := .low, env := e } ∧
      exec .ckh s = .next { s with clk := .high, env := e }) ∧
    (s.clk ≠ .closed → s.env.takeAnswer = (.fail p, e) →
      exec .ckl s = .next (abort (.lineIo p) { s with clk := .x, env := e }) ∧
      exec .ckh s = .next (abort (.lineIo p) { s with clk := .x, env := e })) ∧
    (∃ t, exec .cls s = .next t ∧ t.clk = .closed) ∧
    (∀ (u : Instr) (t : State), exec u s = .next t →
      (u ∈ [Instr.ws, .wl, .wp, .dtl, .dth, .drd, .crs] ∨ ∃ v, u = .cup v) → t.clk = s.clk)

/-- R123: the DATA line driver's transition table, complete: each row on success and on failure, what is not
architected refused, and `DAT` left alone by the delay and CLOCK micro-operations. `DTL` from `CLOSED` opens the line
first (R118), which takes an answer of its own. (How the model refuses, and that each call takes an answer of its own:
log entries 13 and 20.) -/
def Obligations.DataDriverTable : Prop :=
  ∀ (s : State) (e e' : Env) (p : Payload),
    (s.dat ≠ .closed → s.env.takeAnswer = (.ok, e) → exec .dtl s = .next { s with dat := .assertLow, env := e }) ∧
    (s.dat = .closed → s.env.takeAnswer = (.ok, e) → e.takeAnswer = (.ok, e') →
      exec .dtl s = .next { s with dat := .assertLow, env := e' }) ∧
    (s.env.takeAnswer = (.fail p, e) →
      exec .dtl s = .next (abort (.lineIo p) { s with dat := .x, env := e })) ∧
    (s.dat = .closed → s.env.takeAnswer = (.ok, e) → e.takeAnswer = (.fail p, e') →
      exec .dtl s = .next (abort (.lineIo p) { s with dat := .x, env := e' })) ∧
    (s.dat ≠ .closed → exec .dth s = .next { s with dat := .released }) ∧
    (s.dat = .closed →
      exec .dth s = .refused (.lineClosed .data) ∧ exec .drd s = .refused (.lineClosed .data)) ∧
    (∀ t, exec .drd s = .next t → t.dat = s.dat) ∧
    (∃ t, exec .cls s = .next t ∧ t.dat = .closed) ∧
    (∀ (u : Instr) (t : State), exec u s = .next t →
      u ∈ [Instr.ws, .wl, .wp, .cko, .ckl, .ckh] → t.dat = s.dat)

/-- R120: a sample of an opened line completes; of released DATA it reads what pulls the line, LOW as 0 and HIGH as 1;
of a line the block is not releasing, some bit; a failed `read` yields no sample and leaves the line. Nothing else
changes. (That the level is taken from the tape after the `read` answered is log entry 7.) -/
def Obligations.SampleReadsTheLine : Prop :=
  ∀ (s : State) (e e' : Env) (pull : Pull) (p : Payload), s.dat ≠ .closed →
    (s.env.takeAnswer = (.ok, e) → e.takePull = (pull, e') →
      (s.dat = .released →
        exec .drd s =
          .next { s with env := e', seq := { s.seq with d := decide (pull = .float) } }) ∧
      (s.dat ≠ .released → ∃ b : Bool, exec .drd s = .next { s with env := e', seq := { s.seq with d := b } })) ∧
    (s.env.takeAnswer = (.fail p, e) → exec .drd s = .next (abort (.lineIo p) { s with env := e }))

/-- R121: CLS always completes, closes both lines and clears `OPENED`; nothing else changes, and from `CLOSED` lines
only the flag can. -/
def Obligations.CloseNeverFails : Prop :=
  ∀ s : State,
    exec .cls s = .next { s with clk := .closed, dat := .closed, flags := { s.flags with opened := false } }

/-- R143, R144: CRS and CUP always complete and write `CRC` alone. -/
def Obligations.AccumulatorMicroOps : Prop :=
  ∀ (s : State) (v : Byte),
    exec .crs s = .next { s with regs := { s.regs with crc := 0x00 } } ∧
    exec (.cup v) s = .next { s with regs := { s.regs with crc := crcUpdate s.regs.crc v } }

/-- R125 a, b and R126: the engine never sets a direction of CLOCK, never opens a line as an input, never writes HIGH to
DATA, never reads CLOCK; and exactly CKO, CKL, CKH, DTL and DRD make a call that can fail. -/
def Obligations.InterfaceIsUsedOpenDrain : Prop :=
  ∀ (u : Instr) (dat : DatDriver),
    (∀ c ∈ lineCalls dat u,
      c ≠ .write .data .high ∧ c ≠ .readLine .clock ∧
      (∀ dir, c ≠ .setDirection .clock dir) ∧ (∀ line, c ≠ .openLine line .input)) ∧
    ((∃ c ∈ lineCalls dat u, c.fallible = true) ↔ u ∈ [Instr.cko, .ckl, .ckh, .dtl, .drd])

/-- The frame of every micro-operation that answers a next state (R111, R227): the counters, the local `t`, the port and
the host's script are untouched; the data registers but `CRC`, and `CRC` but by CRS and CUP; `OPENED` but by CLS,
`CRC_OK` always; the driver of a line but by that line's own micro-operations; the delays but by a delay; the samples
ahead but by DRD; and, unless it aborted, `PC`, `ERR`, `ERRINFO` and the other flags. -/
def Obligations.MicroOpFrame : Prop :=
  ∀ (u : Instr) (s t : State), u.layer = .micro → exec u s = .next t →
    t.cnt = s.cnt ∧ t.seq.t = s.seq.t ∧ t.port = s.port ∧ t.script = s.script ∧
    t.regs = { s.regs with crc := t.regs.crc } ∧
    (t.regs.crc = s.regs.crc ∨ u = .crs ∨ ∃ v, u = .cup v) ∧
    (t.flags.opened = s.flags.opened ∨ u = .cls) ∧ t.flags.crcOk = s.flags.crcOk ∧
    (t.clk = s.clk ∨ u ∈ [Instr.cko, .ckl, .ckh, .cls]) ∧
    (t.dat = s.dat ∨ u ∈ [Instr.dtl, .dth, .cls]) ∧
    (t.delays = s.delays ∨ u ∈ [Instr.ws, .wl, .wp]) ∧
    (t.env.pulls = s.env.pulls ∧ t.seq.d = s.seq.d ∨ u = .drd) ∧
    ((t.seq.pc = s.seq.pc ∧ t.err = s.err ∧ t.errInfo = s.errInfo ∧
        t.flags = { s.flags with opened := t.flags.opened }) ∨
      (t.seq.pc = [] ∧ t.err = .lineIo ∧
        t.flags = { s.flags with busy := false, rxValid := false, valValid := false, pairValid := false }))

/-! ## Errors -/

/-- R227: the abort writes exactly this. -/
def Obligations.AbortWritesExactlyThis : Prop :=
  ∀ (r : Raised) (s : State),
    abort r s =
      { s with
        err := r.kind
        errInfo := (match r with | .lineIo p => p | _ => s.errInfo)
        flags := { s.flags with busy := false, rxValid := false, valValid := false, pairValid := false }
        seq := { s.seq with pc := [] } }

/-- R110, R221, R228: when an interface call of the micro-operation under way fails, that step ends the command: `ERR`
and `ERRINFO` say so, the addressed line is `X` after a failed `open` or `write` and as it was after a failed `read`,
and no later line of `PC`, of any caller, is ever executed. (That control lines run in the same step: log entry 8.) -/
def Obligations.FailedLineOperationEndsTheCommand : Prop :=
  ∀ (s r : State) (u : Instr) (p : Payload) (e : Env),
    fetch s = .micro u r → Env.calls (lineCalls s.dat u) s.env = (.fail p, e) →
    (u = .ckl ∨ u = .ckh → s.clk ≠ .closed) → (u = .drd → s.dat ≠ .closed) →
    step s = .next { s with
      clk := if u ∈ [Instr.cko, .ckl, .ckh] then .x else s.clk
      dat := if u = .dtl then .x else s.dat
      err := .lineIo
      errInfo := p
      flags := { s.flags with busy := false, rxValid := false, valValid := false, pairValid := false }
      seq := { s.seq with pc := [] }
      env := e }

/-- R33, R227, R229: `ERR` changes in two ways only: to 0 as a command is accepted, and, as one is aborted, to one of
the four kinds, the block then idle, its position discarded and no result valid. -/
def Obligations.ErrorEndsTheCommand : Prop :=
  ∀ s t : State, step s = .next t →
    t.err = s.err ∨
    (t.err = .none ∧ s.flags.busy = false) ∨
    (t.err ≠ .none ∧ s.flags.busy = true ∧ t.flags.busy = false ∧ t.seq.pc = [] ∧
      t.flags.rxValid = false ∧ t.flags.valValid = false ∧ t.flags.pairValid = false ∧
      (t.errInfo = s.errInfo ∨ t.err = .lineIo))

/-! ## What a step is -/

/-- A step runs the decoded instruction: the command on the port of an idle block (R87), or, the port being empty, the
next word the host presents (log entry 10); the micro-operation at the head of `PC` of a busy block, and then the
control lines after it (R31, R111); with nothing to do the block waits (R251). (Model's choices: the control lines run
in the same step, log entry 8, and waiting is a step, log entry 23.) -/
def Obligations.StepRunsTheDecodedInstruction : Prop :=
  ∀ (s : State) (i : Instr),
    (∀ w, s.flags.busy = false → s.port = some w → decodeWord w = .ok i →
      step s = exec i { s with port := none }) ∧
    (∀ w ws, s.flags.busy = false → s.port = none → s.script = w :: ws → decodeWord w = .ok i →
      step s = exec i { s with script := ws }) ∧
    (∀ st k, s.flags.busy = true → s.port = none → s.seq.pc = st :: k → Stmt.micro s st = some i →
      step s = resume (exec i { s with seq := { s.seq with pc := k } })) ∧
    (s.flags.busy = false → s.port = none → s.script = [] → step s = .next s)

/-- R238: (a) a command presented while `BUSY` = 1 is refused; (b) a bus command but INITIALIZE and SHUTDOWN while
`OPENED` = 0 is refused, while those two and the CRC commands are accepted; (c) a reserved word is refused. A refusal
has no next state, so none of them writes `ERR`. (How the model refuses: log entries 10, 11, 12.) -/
def Obligations.RefusedSituations : Prop :=
  ∀ (s : State) (i : Instr),
    (s.flags.busy = true → ∀ w, s.port = some w → step s = .refused .commandWhileBusy) ∧
    (s.flags.busy = true → i.layer = .command → exec i s = .refused .commandWhileBusy) ∧
    (s.flags.busy = false → s.flags.opened = false →
      (i ∈ [Instr.reset, .tstart, .awaitRead, .readAll] ∨ (∃ v, i = .sendByte v) ∨ (∃ a, i = .recvByte a) ∨
        (∃ q, i = .startMeas q) ∨ (∃ q, i = .read q)) →
      exec i s = .refused .linesNotOpened) ∧
    (s.flags.busy = false →
      (i ∈ [Instr.initLines, .shutdown, .crcReset, .crcValue] ∨ (∃ v, i = .crcUpdate v) ∨ (∃ v, i = .crcVerify v)) →
      ∃ t, exec i s = .next t) ∧
    (∀ w, s.flags.busy = false → s.port = some w → decodeWord w = .error (.reservedWord w) →
      step s = .refused (.reservedCommandWord w))

/-- R87: every bus command is accepted in an idle state with the lines opened: `BUSY` set, `ERR` cleared, a sequence
loaded. Besides that only the lines its rule runs before its first micro-operation have an effect: INITIALIZE clears
`OPENED` (R161), RECV_BYTE clears `RXB` and `RX_VALID` (R165), AWAIT_READ, READ and READ_ALL clear `VAL_VALID` (R168,
R200, R201), READ_ALL clears `PAIR_VALID` (R201), SEND_BYTE and RECV_BYTE set their loop counter `BITCNT` to 7, and
AWAIT_READ sets `ATTEMPT` to 0. No line moves and no answer of the environment is taken. (Model's choice: acceptance is
a step of its own, in which the lines before the first micro-operation run, log entry 9.) -/
def Obligations.AcceptanceStartsTheSequence : Prop :=
  ∀ (s : State) (i : Instr), s.flags.busy = false → s.flags.opened = true →
    (i ∈ [Instr.initLines, .shutdown, .reset, .tstart, .awaitRead, .readAll] ∨ (∃ v, i = .sendByte v) ∨
      (∃ a, i = .recvByte a) ∨ (∃ q, i = .startMeas q) ∨ (∃ q, i = .read q)) →
    ∃ t, exec i s = .next t ∧ t.err = .none ∧ t.seq.pc ≠ [] ∧
      t.clk = s.clk ∧ t.dat = s.dat ∧ t.env = s.env ∧ t.port = s.port ∧ t.script = s.script ∧
      t.delays = s.delays ∧ t.errInfo = s.errInfo ∧ t.seq.d = s.seq.d ∧ t.seq.t = s.seq.t ∧
      t.regs = { s.regs with rxb := if i ∈ [Instr.recvByte true, .recvByte false] then 0x00 else s.regs.rxb } ∧
      t.cnt = { s.cnt with
        bitcnt := (match i with | .sendByte _ | .recvByte _ => 7 | _ => s.cnt.bitcnt)
        attempt := if i = .awaitRead then 0 else s.cnt.attempt } ∧
      t.flags = { s.flags with
        busy := true
        opened := decide (i ≠ .initLines)
        rxValid := s.flags.rxValid && decide (i ∉ [Instr.recvByte true, .recvByte false])
        valValid := s.flags.valValid &&
          decide (i ∉ [Instr.awaitRead, .readAll, .read .temperature, .read .humidity])
        pairValid := s.flags.pairValid && decide (i ≠ .readAll) }

/-! ## Commands, run to their end -/

/-- R161: INITIALIZE, the interface answering, completes after 4 micro-operations from any idle state, lines opened or
closed, with CLOCK LOW, DATA asserted LOW and `OPENED` set; `CRC`, the result registers and their flags are kept.
(Model's choice: acceptance is a step of its own, log entry 9, so runs count micro-operations only.) -/
def Obligations.InitializeCompletes : Prop :=
  ∀ s : State, Idle s → LineOk s →
    ∃ t u, exec .initLines s = .next t ∧ Runs 4 t u ∧
      u = { s with
        clk := .low
        dat := .assertLow
        flags := { s.flags with opened := true }
        err := .none
        seq := { s.seq with pc := [] }
        env := u.env
        delays := { s.delays with long := s.delays.long + 1 } } ∧
      u.env.pulls = s.env.pulls ∧ LineOk u

/-- R161, R228: an INITIALIZE whose CKO, CKL or DTL fails stops there, leaves `OPENED` = 0 and the addressed line `X`,
and touches no later line; a DTL from `CLOSED` makes two fallible calls (R118), and the failure of either ends it.
(Model's choices: acceptance is a step of its own, log entry 9, so runs count micro-operations only, and each call takes
an answer of its own, log entry 20.) -/
def Obligations.InitializeStopsAtTheFirstFailure : Prop :=
  ∀ (s : State) (p : Payload), Idle s →
    (Feed.Begins [.fail p] s.env.answers →
      ∃ t u, exec .initLines s = .next t ∧ Runs 2 t u ∧ u.clk = .x ∧ u.dat = s.dat ∧
        u.flags.busy = false ∧ u.flags.opened = false ∧ u.err = .lineIo ∧ u.errInfo = p ∧ u.regs = s.regs) ∧
    (Feed.Begins [.ok, .fail p] s.env.answers →
      ∃ t u, exec .initLines s = .next t ∧ Runs 3 t u ∧ u.clk = .x ∧ u.dat = s.dat ∧
        u.flags.busy = false ∧ u.flags.opened = false ∧ u.err = .lineIo ∧ u.errInfo = p ∧ u.regs = s.regs) ∧
    (Feed.Begins [.ok, .ok, .fail p] s.env.answers →
      ∃ t u, exec .initLines s = .next t ∧ Runs 4 t u ∧ u.clk = .low ∧ u.dat = .x ∧
        u.flags.busy = false ∧ u.flags.opened = false ∧ u.err = .lineIo ∧ u.errInfo = p ∧ u.regs = s.regs) ∧
    (s.dat = .closed → Feed.Begins [.ok, .ok, .ok, .fail p] s.env.answers →
      ∃ t u, exec .initLines s = .next t ∧ Runs 4 t u ∧ u.clk = .low ∧ u.dat = .x ∧
        u.flags.busy = false ∧ u.flags.opened = false ∧ u.err = .lineIo ∧ u.errInfo = p ∧ u.regs = s.regs)

/-- R162: SHUTDOWN completes after one micro-operation in any idle state, whatever the interface answers: both lines
closed, `OPENED` cleared, nothing else but `ERR` (cleared at acceptance). (Model's choice: acceptance is a step of its
own, log entry 9, so runs count micro-operations only.) -/
def Obligations.ShutdownCompletes : Prop :=
  ∀ s : State, Idle s →
    ∃ t, exec .shutdown s = .next t ∧
      Runs 1 t { s with
        clk := .closed
        dat := .closed
        flags := { s.flags with opened := false }
        err := .none
        seq := { s.seq with pc := [] } }

/-- R163: TSTART, the interface answering, completes after 13 micro-operations with CLOCK LOW, DATA released and `CRC`
zero; no sample is taken and no flag or other register changes. (Model's choice: acceptance is a step of its own, log
entry 9, so runs count micro-operations only.) -/
def Obligations.TstartCompletes : Prop :=
  ∀ s : State, Ready s → LineOk s →
    ∃ t u, exec .tstart s = .next t ∧ Runs 13 t u ∧
      u = { s with
        clk := .low
        dat := .released
        regs := { s.regs with crc := 0x00 }
        err := .none
        seq := { s.seq with pc := [] }
        env := u.env
        delays := { s.delays with short := s.delays.short + 6 } } ∧
      u.env.pulls = s.env.pulls ∧ LineOk u

/-- R163: whatever the interface answers, a TSTART that ends in an error, the host presenting nothing after it, has
not reset `CRC`: it keeps its old value. (Model's choices: acceptance is a step of its own, log entry 9, and the
host's later words stand in the script, log entry 10.) -/
def Obligations.FailedTstartKeepsTheAccumulator : Prop :=
  ∀ (s t u : State) (n : Nat), Ready s → s.script = [] → exec .tstart s = .next t → n ≤ 13 → Runs n t u →
    u.err ≠ .none → u.err = .lineIo ∧ u.regs = s.regs ∧ u.flags.busy = false

/-- R83, R257, with the wires of R23 and R24: from released DATA a TSTART makes DATA fall (third micro-operation) and
rise (ninth) while CLOCK is HIGH; from DATA asserted LOW, as INITIALIZE leaves it, the third makes no edge and only
the rise remains. (Model's choice: acceptance is a step of its own, log entry 9, so runs count micro-operations only.)
-/
def Obligations.TstartMakesTheStartCondition : Prop :=
  ∀ s : State, Ready s → LineOk s →
    ∃ t a b c d, exec .tstart s = .next t ∧ Runs 2 t a ∧ Runs 3 t b ∧ Runs 8 t c ∧ Runs 9 t d ∧
      clockWire a = some .high ∧ clockWire b = some .high ∧ clockWire c = some .high ∧ clockWire d = some .high ∧
      (s.dat = .released → dataWire .float a = some .high) ∧
      (s.dat = .assertLow → dataWire .float a = some .low) ∧
      dataWire .float b = some .low ∧ dataWire .float c = some .low ∧ dataWire .float d = some .high

/-- R164: SEND_BYTE acknowledged, the interface answering, completes after 58 micro-operations: CLOCK LOW, DATA
released, the byte accumulated, one sample taken, nothing else. (Model's choice: acceptance is a step of its own, log
entry 9, so runs count micro-operations only.) -/
def Obligations.SendByteCompletes : Prop :=
  ∀ (s : State) (v : Byte) (more : List Pull), Ready s → LineOk s → Tape (.pullLow :: more) s →
    ∃ t u, exec (.sendByte v) s = .next t ∧ Runs 58 t u ∧
      u = { s with
        clk := .low
        dat := .released
        regs := { s.regs with crc := crcUpdate s.regs.crc v }
        cnt := { s.cnt with bitcnt := 0 }
        err := .none
        seq := { s.seq with pc := [], d := false }
        env := u.env
        delays := { s.delays with short := s.delays.short + 28 } } ∧
      Tape more u ∧ LineOk u

/-- R164, R222, R228: SEND_BYTE not acknowledged ends with `NotAcknowledged` at the sample, after 55 micro-operations:
CLOCK still HIGH, DATA released, `CRC` without the byte, every valid flag clear. Inside START_MEAS and READ (R167, R200)
the same ends the composite after 68 micro-operations, `CRC` zero from the transmission start, and AWAIT_READ is not
started: no poll delay, no further sample, `ATTEMPT` as it was. (Model's choice: acceptance is a step of its own, log
entry 9, so runs count micro-operations only.) -/
def Obligations.SendByteNotAcknowledged : Prop :=
  ∀ (s : State) (more : List Pull), Ready s → LineOk s → Tape (.float :: more) s →
    (∀ v : Byte, ∃ t u, exec (.sendByte v) s = .next t ∧ Runs 55 t u ∧
      u = { s with
        clk := .high
        dat := .released
        cnt := { s.cnt with bitcnt := 0 }
        flags := { s.flags with rxValid := false, valValid := false, pairValid := false }
        err := .notAcknowledged
        seq := { s.seq with pc := [], d := true }
        env := u.env
        delays := { s.delays with short := s.delays.short + 27 } } ∧
      Tape more u ∧ LineOk u) ∧
    (∀ (i : Instr) (q : Quantity), i = .startMeas q ∨ i = .read q →
      ∃ t u, exec i s = .next t ∧ Runs 68 t u ∧
        u = { s with
          clk := .high
          dat := .released
          regs := { s.regs with crc := 0x00 }
          cnt := { s.cnt with bitcnt := 0 }
          flags := { s.flags with rxValid := false, valValid := false, pairValid := false }
          err := .notAcknowledged
          seq := { s.seq with pc := [], d := true }
          env := u.env
          delays := { s.delays with short := s.delays.short + 33 } } ∧
        Tape more u ∧ LineOk u)

/-- R61, R81, R164: SEND_BYTE drives the eight bits most significant first: in round `j` the driver is set to bit `7 -
j` while CLOCK is LOW, and holds it while CLOCK is HIGH. (Model's choice: acceptance is a step of its own, log entry
9, so runs count micro-operations only.) -/
def Obligations.SendByteDrivesBitsMsbFirst : Prop :=
  ∀ (s t : State) (v : Byte) (j : Nat), Ready s → LineOk s → exec (.sendByte v) s = .next t → j ≤ 7 →
    ∃ a b, Runs (6 * j + 3) t a ∧ Runs (6 * j + 6) t b ∧ a.clk = .low ∧ b.clk = .high ∧
      a.dat = (if v.getLsbD (7 - j) then .released else .assertLow) ∧ b.dat = a.dat

/-- R61, R82, R165: RECV_BYTE from released DATA, the interface answering, assembles the eight samples most
significant first; 46 micro-operations with `ACK`, 44 with `NACK`; `CRC` is untouched. (Model's choice: acceptance is
a step of its own, log entry 9, so runs count micro-operations only.) -/
def Obligations.RecvByteCompletes : Prop :=
  ∀ (s : State) (ack : Bool) (v : Byte) (more : List Pull), Ready s → LineOk s → s.dat = .released →
    Tape (bitsOf v ++ more) s →
    ∃ t u, exec (.recvByte ack) s = .next t ∧ Runs (if ack then 46 else 44) t u ∧
      u = { s with
        clk := .low
        dat := .released
        regs := { s.regs with rxb := v }
        cnt := { s.cnt with bitcnt := 0 }
        flags := { s.flags with rxValid := true }
        err := .none
        seq := { s.seq with pc := [], d := v.getLsbD 0 }
        env := u.env
        delays := { s.delays with short := s.delays.short + 18 } } ∧
      Tape more u ∧ LineOk u

/-- R165, R258, R120: entered with DATA asserted LOW or `X`, RECV_BYTE still completes; the byte is unspecified (some
byte), and DATA ends released with `ACK`, as it was with `NACK`. (Model's choices: the free bit, log entry 6, and
acceptance as a step of its own, log entry 9.) -/
def Obligations.RecvByteCompletesUnreleased : Prop :=
  ∀ (s : State) (ack : Bool), Ready s → LineOk s → s.dat ≠ .released →
    ∃ t u, exec (.recvByte ack) s = .next t ∧ Runs (if ack then 46 else 44) t u ∧
      u.flags = { s.flags with rxValid := true } ∧ u.err = .none ∧ u.clk = .low ∧
      u.dat = (if ack then .released else s.dat) ∧ u.regs = { s.regs with rxb := u.regs.rxb }

/-- R82, R165: with `ACK` the block asserts DATA LOW during the ninth clock, with `NACK` it does not. (Model's choice:
acceptance is a step of its own, log entry 9, so runs count micro-operations only.) -/
def Obligations.RecvByteAcknowledges : Prop :=
  ∀ (s t : State) (ack : Bool), Ready s → LineOk s → s.dat = .released → exec (.recvByte ack) s = .next t →
    ∃ a, Runs (if ack then 42 else 41) t a ∧ a.clk = .high ∧ a.dat = (if ack then .assertLow else .released)

/-- R166: RESET acknowledged, the interface answering, completes after 109 micro-operations: nine clock pulses, a
transmission start, the byte `0x1E`; `CRC` ends `0x5C`. (Model's choice: acceptance is a step of its own, log entry 9,
so runs count micro-operations only.) -/
def Obligations.ResetCompletes : Prop :=
  ∀ (s : State) (more : List Pull), Ready s → LineOk s → Tape (.pullLow :: more) s →
    ∃ t u, exec .reset s = .next t ∧ Runs 109 t u ∧
      u = { s with
        clk := .low
        dat := .released
        regs := { s.regs with crc := 0x5C }
        cnt := { s.cnt with bitcnt := 0, clkcnt := 9 }
        err := .none
        seq := { s.seq with pc := [], d := false }
        env := u.env
        delays := { s.delays with short := s.delays.short + 53 } } ∧
      Tape more u ∧ LineOk u

/-- R166, R228: RESET not acknowledged ends after 106 micro-operations with `NotAcknowledged`, CLOCK HIGH and `CRC`
zero, which the inner transmission start reset. (Model's choice: acceptance is a step of its own, log entry 9, so runs
count micro-operations only.) -/
def Obligations.ResetNotAcknowledged : Prop :=
  ∀ (s : State) (more : List Pull), Ready s → LineOk s → Tape (.float :: more) s →
    ∃ t u, exec .reset s = .next t ∧ Runs 106 t u ∧ u.flags.busy = false ∧ u.err = .notAcknowledged ∧
      u.clk = .high ∧ u.dat = .released ∧ u.regs = { s.regs with crc := 0x00 } ∧ Tape more u

/-- R167: START_MEAS acknowledged, the interface answering, completes after 71 micro-operations with the command byte
accumulated from zero; it does not wait for the measurement. (Model's choice: acceptance is a step of its own, log
entry 9, so runs count micro-operations only.) -/
def Obligations.StartMeasCompletes : Prop :=
  ∀ (s : State) (q : Quantity) (more : List Pull), Ready s → LineOk s → Tape (.pullLow :: more) s →
    ∃ t u, exec (.startMeas q) s = .next t ∧ Runs 71 t u ∧
      u = { s with
        clk := .low
        dat := .released
        regs := { s.regs with crc := crcUpdate 0x00 (mtByte q) }
        cnt := { s.cnt with bitcnt := 0 }
        err := .none
        seq := { s.seq with pc := [], d := false }
        env := u.env
        delays := { s.delays with short := s.delays.short + 34 } } ∧
      Tape more u ∧ LineOk u

/-- R168, R85, R149: AWAIT_READ from released DATA, ready on attempt `k` of at most 62, with a checksum byte equal to
the mirrored accumulator, delivers `{HI, LO}` after `2k + 138` micro-operations. (Model's choice: acceptance is a step
of its own, log entry 9, so runs count micro-operations only.) -/
def Obligations.AwaitReadCompletes : Prop :=
  ∀ (s : State) (k : Nat) (hi lo chk : Byte) (more : List Pull), Ready s → LineOk s → s.dat = .released →
    1 ≤ k → k ≤ 62 → chk = mirror8 (crcUpdate (crcUpdate s.regs.crc hi) lo) →
    Tape (readoutTape k hi lo chk ++ more) s →
    ∃ t u, exec .awaitRead s = .next t ∧ Runs (2 * k + 138) t u ∧
      u = { s with
        clk := .low
        dat := .released
        regs := { s.regs with
          crc := crcUpdate (crcUpdate s.regs.crc hi) lo, rxb := chk, hi := hi, lo := lo, chk := chk, val := hi ++ lo }
        cnt := { s.cnt with bitcnt := 0, attempt := k }
        flags := { s.flags with rxValid := true, valValid := true, crcOk := true }
        err := .none
        seq := { s.seq with pc := [], d := chk.getLsbD 0 }
        env := u.env
        delays := { s.delays with short := s.delays.short + 54, poll := s.delays.poll + k } } ∧
      Tape more u ∧ LineOk u

/-- R168, R224, R228: a checksum byte that differs in any bit ends AWAIT_READ with `ChecksumMismatch`, after all three
frames have been read; `VAL` is not written and no result is valid. Inside READ (R200) the same ends READ, its checksum
taken over the command byte and the two data bytes (R150). (Model's choice: acceptance is a step of its own, log entry
9, so runs count micro-operations only.) -/
def Obligations.AwaitReadMismatch : Prop :=
  ∀ (s : State) (k : Nat) (hi lo chk : Byte) (more : List Pull), Ready s → LineOk s → 1 ≤ k → k ≤ 62 →
    (s.dat = .released → chk ≠ mirror8 (crcUpdate (crcUpdate s.regs.crc hi) lo) →
      Tape (readoutTape k hi lo chk ++ more) s →
      ∃ t u, exec .awaitRead s = .next t ∧ Runs (2 * k + 138) t u ∧
        u = { s with
          clk := .low
          dat := .released
          regs := { s.regs with
            crc := crcUpdate (crcUpdate s.regs.crc hi) lo, rxb := chk, hi := hi, lo := lo, chk := chk }
          cnt := { s.cnt with bitcnt := 0, attempt := k }
          flags := { s.flags with rxValid := false, valValid := false, pairValid := false, crcOk := false }
          err := .checksumMismatch
          seq := { s.seq with pc := [], d := chk.getLsbD 0 }
          env := u.env
          delays := { s.delays with short := s.delays.short + 54, poll := s.delays.poll + k } } ∧
        Tape more u ∧ LineOk u) ∧
    (∀ q : Quantity, chk ≠ mirror8 (crcFold 0x00 [mtByte q, hi, lo]) →
      Tape (.pullLow :: readoutTape k hi lo chk ++ more) s →
      ∃ t u, exec (.read q) s = .next t ∧ Runs (2 * k + 209) t u ∧
        u = { s with
          clk := .low
          dat := .released
          regs := { s.regs with
            crc := crcFold 0x00 [mtByte q, hi, lo], rxb := chk, hi := hi, lo := lo, chk := chk }
          cnt := { s.cnt with bitcnt := 0, attempt := k }
          flags := { s.flags with rxValid := false, valValid := false, pairValid := false, crcOk := false }
          err := .checksumMismatch
          seq := { s.seq with pc := [], d := chk.getLsbD 0 }
          env := u.env
          delays := { s.delays with short := s.delays.short + 88, poll := s.delays.poll + k } } ∧
        Tape more u ∧ LineOk u)

/-- R223, R168 b, R228: when all 62 poll samples read HIGH, AWAIT_READ ends with `Timeout` after exactly 62 delays and
62 samples, at least 310 ms (R270), the lines and `CRC` as on entry. Inside READ (R200), its command byte acknowledged,
the same ends READ after 195 micro-operations, the lines and `CRC` as START_MEAS leaves them. (Model's choices: the
nanosecond, log entry 3, and acceptance as a step of its own, log entry 9.) -/
def Obligations.AwaitReadTimesOut : Prop :=
  ∀ (s : State) (more : List Pull), Ready s → LineOk s →
    (s.dat = .released → Tape (List.replicate 62 .float ++ more) s →
      ∃ t u, exec .awaitRead s = .next t ∧ Runs 124 t u ∧
        u = { s with
          cnt := { s.cnt with attempt := 62 }
          flags := { s.flags with rxValid := false, valValid := false, pairValid := false }
          err := .timeout
          seq := { s.seq with pc := [], d := true }
          env := u.env
          delays := { s.delays with poll := s.delays.poll + 62 } } ∧
        Tape more u ∧ LineOk u ∧ elapsedAtLeast u = elapsedAtLeast s + 310000000) ∧
    (∀ q : Quantity, Tape (.pullLow :: List.replicate 62 .float ++ more) s →
      ∃ t u, exec (.read q) s = .next t ∧ Runs 195 t u ∧
        u = { s with
          clk := .low
          dat := .released
          regs := { s.regs with crc := crcUpdate 0x00 (mtByte q) }
          cnt := { s.cnt with bitcnt := 0, attempt := 62 }
          flags := { s.flags with rxValid := false, valValid := false, pairValid := false }
          err := .timeout
          seq := { s.seq with pc := [], d := true }
          env := u.env
          delays := { s.delays with short := s.delays.short + 34, poll := s.delays.poll + 62 } } ∧
        Tape more u ∧ LineOk u)

/-- R200, R150: READ, its command byte acknowledged, ready on attempt `k`, with a checksum over the command byte and
the two data bytes, delivers the value after `2k + 209` micro-operations. (Model's choice: acceptance is a step of its
own, log entry 9, so runs count micro-operations only.) -/
def Obligations.ReadCompletes : Prop :=
  ∀ (s : State) (q : Quantity) (k : Nat) (hi lo chk : Byte) (more : List Pull), Ready s → LineOk s →
    1 ≤ k → k ≤ 62 → chk = mirror8 (crcFold 0x00 [mtByte q, hi, lo]) →
    Tape (.pullLow :: readoutTape k hi lo chk ++ more) s →
    ∃ t u, exec (.read q) s = .next t ∧ Runs (2 * k + 209) t u ∧
      u = { s with
        clk := .low
        dat := .released
        regs := { s.regs with
          crc := crcFold 0x00 [mtByte q, hi, lo], rxb := chk, hi := hi, lo := lo, chk := chk, val := hi ++ lo }
        cnt := { s.cnt with bitcnt := 0, attempt := k }
        flags := { s.flags with rxValid := true, valValid := true, crcOk := true }
        err := .none
        seq := { s.seq with pc := [], d := chk.getLsbD 0 }
        env := u.env
        delays := { s.delays with short := s.delays.short + 88, poll := s.delays.poll + k } } ∧
      Tape more u ∧ LineOk u

/-- R201: READ_ALL, both acquisitions succeeding, temperature strictly first, delivers the pair after `2(kT + kH) +
418` micro-operations; `VAL` holds the humidity count. (Model's choice: acceptance is a step of its own, log entry 9,
so runs count micro-operations only.) -/
def Obligations.ReadAllCompletes : Prop :=
  ∀ (s : State) (kT kH : Nat) (hiT loT chkT hiH loH chkH : Byte) (more : List Pull), Ready s → LineOk s →
    1 ≤ kT → kT ≤ 62 → 1 ≤ kH → kH ≤ 62 →
    chkT = mirror8 (crcFold 0x00 [mtByte .temperature, hiT, loT]) →
    chkH = mirror8 (crcFold 0x00 [mtByte .humidity, hiH, loH]) →
    Tape (.pullLow :: readoutTape kT hiT loT chkT ++ .pullLow :: readoutTape kH hiH loH chkH ++ more) s →
    ∃ t u, exec .readAll s = .next t ∧ Runs (2 * (kT + kH) + 418) t u ∧
      u = { s with
        clk := .low
        dat := .released
        regs :=
          { crc := crcFold 0x00 [mtByte .humidity, hiH, loH], rxb := chkH, hi := hiH, lo := loH, chk := chkH,
            val := hiH ++ loH, rawT := hiT ++ loT, rawH := hiH ++ loH }
        cnt := { s.cnt with bitcnt := 0, attempt := kH }
        flags := { s.flags with rxValid := true, valValid := true, pairValid := true, crcOk := true }
        err := .none
        seq := { pc := [], d := chkH.getLsbD 0, t := hiT ++ loT }
        env := u.env
        delays := { s.delays with short := s.delays.short + 176, poll := s.delays.poll + kT + kH } } ∧
      Tape more u ∧ LineOk u

/-- R201, R230: when the temperature acquisition fails by its checksum, a missing acknowledgment or a timeout, READ_ALL
ends there: no sample of the humidity acquisition is taken, the pair registers are kept, and no result is valid. (A
failed line operation ends every command at once, `Obligations.FailedLineOperationEndsTheCommand`. Model's choice:
acceptance is a step of its own, log entry 9, so runs count micro-operations only.) -/
def Obligations.ReadAllStopsAtTemperature : Prop :=
  ∀ (s : State) (k : Nat) (hi lo chk : Byte) (more : List Pull), Ready s → LineOk s → 1 ≤ k → k ≤ 62 →
    (chk ≠ mirror8 (crcFold 0x00 [mtByte .temperature, hi, lo]) →
      Tape (.pullLow :: readoutTape k hi lo chk ++ more) s →
      ∃ t u, exec .readAll s = .next t ∧ Runs (2 * k + 209) t u ∧ u.flags.busy = false ∧
        u.err = .checksumMismatch ∧ u.regs.rawT = s.regs.rawT ∧ u.regs.rawH = s.regs.rawH ∧
        u.regs.val = s.regs.val ∧ u.flags.pairValid = false ∧ u.flags.valValid = false ∧
        u.flags.rxValid = false ∧ Tape more u) ∧
    (Tape (.float :: more) s →
      ∃ t u, exec .readAll s = .next t ∧ Runs 68 t u ∧ u.flags.busy = false ∧ u.err = .notAcknowledged ∧
        u.clk = .high ∧ u.regs = { s.regs with crc := 0x00 } ∧ u.flags.pairValid = false ∧
        u.flags.valValid = false ∧ u.flags.rxValid = false ∧ Tape more u) ∧
    (Tape (.pullLow :: List.replicate 62 .float ++ more) s →
      ∃ t u, exec .readAll s = .next t ∧ Runs 195 t u ∧ u.flags.busy = false ∧ u.err = .timeout ∧
        u.clk = .low ∧ u.dat = .released ∧
        u.regs = { s.regs with crc := crcUpdate 0x00 (mtByte .temperature) } ∧ u.flags.pairValid = false ∧
        u.flags.valValid = false ∧ u.flags.rxValid = false ∧ Tape more u)

/-! ## Composites and their expansions -/

/-- R94, second half of R167: START_MEAS ends in the very state that TSTART and then SEND_BYTE of the command byte end
in, issued one after the other. (Model's choice: acceptance is a step of its own, log entry 9, so runs count
micro-operations only.) -/
def Obligations.StartMeasIsItsExpansion : Prop :=
  ∀ (s : State) (q : Quantity) (more : List Pull), Ready s → LineOk s → Tape (.pullLow :: more) s →
    ∃ t u t₁ u₁ t₂, exec (.startMeas q) s = .next t ∧ Runs 71 t u ∧
      exec .tstart s = .next t₁ ∧ Runs 13 t₁ u₁ ∧ exec (.sendByte (mtByte q)) u₁ = .next t₂ ∧ Runs 58 t₂ u

/-- R94: READ ends in the very state that START_MEAS and then AWAIT_READ end in, issued one after the other. (Model's
choice: acceptance is a step of its own, log entry 9, so runs count micro-operations only.) -/
def Obligations.ReadIsItsExpansion : Prop :=
  ∀ (s : State) (q : Quantity) (k : Nat) (hi lo chk : Byte) (more : List Pull), Ready s → LineOk s →
    1 ≤ k → k ≤ 62 → chk = mirror8 (crcFold 0x00 [mtByte q, hi, lo]) →
    Tape (.pullLow :: readoutTape k hi lo chk ++ more) s →
    ∃ t u t₁ u₁ t₂, exec (.read q) s = .next t ∧ Runs (2 * k + 209) t u ∧
      exec (.startMeas q) s = .next t₁ ∧ Runs 71 t₁ u₁ ∧ exec .awaitRead u₁ = .next t₂ ∧ Runs (2 * k + 138) t₂ u

/-! ## Whole-machine rules -/

/-- R25: `CRC` is written by CRS and CUP and by the two commands that do the same, and by nothing else. -/
def Obligations.AccumulatorHasFourWriters : Prop :=
  ∀ s t : State, step s = .next t →
    t.regs.crc = s.regs.crc ∨
    ((∃ r, fetch s = .micro .crs r ∨ fetch s = .command .crcReset r) ∧ t.regs.crc = 0x00) ∨
    (∃ v r, (fetch s = .micro (.cup v) r ∨ fetch s = .command (.crcUpdate v) r) ∧
      t.regs.crc = crcUpdate s.regs.crc v)

/-- R123, R124, R227: a driver changes only in the step that executes a micro-operation of its own line: not at
acceptance, not by a control line, and by an abort only as the failing micro-operation's own rule says. -/
def Obligations.LinesMoveOnlyByTheirMicroOps : Prop :=
  ∀ s t : State, step s = .next t →
    (t.clk = s.clk ∨ ∃ u r, fetch s = .micro u r ∧ u ∈ [Instr.cko, .ckl, .ckh, .cls]) ∧
    (t.dat = s.dat ∨ ∃ u r, fetch s = .micro u r ∧ u ∈ [Instr.dtl, .dth, .cls])

/-- R32: "No operation reads a flag to decide what to do: all branching is on sampled levels and on the comparison
itself": states that differ in the four result flags only step alike. -/
def Obligations.NoOperationReadsAResultFlag : Prop :=
  ∀ s s' : State, eraseResultFlags s = eraseResultFlags s' → SameButResultFlags (step s) (step s')

/-- The state after power-on meets the invariant. -/
def Obligations.InvariantAtReset : Prop := Inv State.reset

/-- Every step keeps the invariant (R30 to R33, R161, R168, R238). -/
def Obligations.InvariantKeptByEveryStep : Prop := ∀ s t : State, Inv s → step s = .next t → Inv t

/-- R123, R124: "no sequence of this spec executes that micro-operation in that state": from an invariant state a
command under way always takes its next step, whatever the environment answers; it is never refused. -/
def Obligations.AcceptedCommandIsNeverRefused : Prop :=
  ∀ s : State, Inv s → s.flags.busy = true → s.port = none → ∃ t, step s = .next t

/-- R171: "every command terminates ... the longest run is bounded by the counts of rule R170 with `k` = 62": whatever
the environment answers, an accepted command ends within 666 micro-operations, READ_ALL's count. (That every interface
call answers: log entry 22.) -/
def Obligations.EveryCommandEnds : Prop :=
  ∀ (s t : State) (i : Instr), Inv s → s.port = none → i.layer = .command → exec i s = .next t →
    ∃ n u, n ≤ 666 ∧ Runs n t u ∧ u.flags.busy = false

/-- R125 d, R258: a command begun as its rule asks (RECV_BYTE with DATA released, AWAIT_READ with CLOCK LOW too) has
disciplined samples ahead; every step keeps that; and a sample under discipline finds DATA released, with CLOCK HIGH,
or LOW for a poll sample. -/
def Obligations.SamplesAreDisciplined : Prop :=
  (∀ (s t : State) (i : Instr), i.layer = .command → exec i s = .next t →
    ((∃ a, i = .recvByte a) → s.dat = .released) →
    (i = .awaitRead → s.dat = .released ∧ s.clk = .low) → Disciplined t) ∧
  (∀ s t : State, Disciplined s → s.flags.busy = true → step s = .next t → Disciplined t) ∧
  (∀ s r : State, Disciplined s → fetch s = .micro .drd r →
    s.dat = .released ∧
    (s.clk = .high ∨ s.clk = .low ∧ ∃ k, s.seq.pc = .exec .drd :: .pollNext :: k))

/-! ## Reset and the host's view -/

/-- R40, the rows with a value: both lines closed, idle, no position, every flag 0, `ERR` 0; and the power-on event
gives the same in any state (R250). (What power-on keeps of the environment and the host: log entry 18.) -/
def Obligations.ResetLeavesTheBlockIdle : Prop :=
  ∀ s : State, ∀ r ∈ [State.reset, powerOn s],
    r.clk = .closed ∧ r.dat = .closed ∧ r.flags = ⟨false, false, false, false, false, false⟩ ∧
    r.seq.pc = [] ∧ r.err = .none ∧ statusWord r = 0x00 ∧ linesWord r = 0x00

/-- R34, R39: the host's register table; a result register whose flag is 0 holds no value, and its read is a fault of
the host; numbers 10 and above are reserved, and the model refuses them (log entry 17). That `ERRINFO` reads as what it
holds whatever `ERR` is, is the model's choice (log entry 17). -/
def Obligations.HostReadsTheRegisterTable : Prop :=
  ∀ s : State,
    readReg 0 s = .next (.byte (statusWord s)) ∧ readReg 1 s = .next (.byte s.err.code) ∧
    readReg 2 s = .next (.byte s.regs.crc) ∧ readReg 3 s = .next (.byte (mirror8 s.regs.crc)) ∧
    readReg 4 s = (if s.flags.rxValid then .next (.byte s.regs.rxb) else .fault (.resultNotValid .rxb)) ∧
    readReg 5 s = (if s.flags.valValid then .next (.half s.regs.val) else .fault (.resultNotValid .val)) ∧
    readReg 6 s = (if s.flags.pairValid then .next (.half s.regs.rawT) else .fault (.resultNotValid .rawT)) ∧
    readReg 7 s = (if s.flags.pairValid then .next (.half s.regs.rawH) else .fault (.resultNotValid .rawH)) ∧
    readReg 8 s = .next (.byte (linesWord s)) ∧ readReg 9 s = .next (.info s.errInfo) ∧
    ∀ n, 10 ≤ n → readReg n s = .refused (.reservedRegister n)

/-- The bits of `STATUS` (R32) and the numbers of `ERR` (R220). -/
def Obligations.StatusAndErrorEncoding : Prop :=
  ∀ s : State,
    (statusWord s).getLsbD 0 = s.flags.busy ∧ (statusWord s).getLsbD 1 = s.flags.opened ∧
    (statusWord s).getLsbD 2 = s.flags.rxValid ∧ (statusWord s).getLsbD 3 = s.flags.valValid ∧
    (statusWord s).getLsbD 4 = s.flags.pairValid ∧ (statusWord s).getLsbD 5 = s.flags.crcOk ∧
    (statusWord s).getLsbD 6 = false ∧ (statusWord s).getLsbD 7 = false ∧
    ErrKind.none.code = 0 ∧ ErrKind.lineIo.code = 1 ∧ ErrKind.notAcknowledged.code = 2 ∧
    ErrKind.timeout.code = 3 ∧ ErrKind.checksumMismatch.code = 4

/-- R35: bits 1:0 of `LINES` are `CLK`, bits 3:2 `DAT`, in the rule's encoding, and bits 7:4 read as 0. -/
def Obligations.LinesEncoding : Prop :=
  ∀ s : State,
    (linesWord s).extractLsb' 0 2 =
      (match s.clk with | .closed => 0#2 | .x => 1#2 | .low => 2#2 | .high => 3#2) ∧
    (linesWord s).extractLsb' 2 2 =
      (match s.dat with | .closed => 0#2 | .x => 1#2 | .assertLow => 2#2 | .released => 3#2) ∧
    (linesWord s).extractLsb' 4 4 = 0#4

/-- R23, R24: the CLOCK wire is what the driver drives; the DATA wire is LOW while the block asserts it, and while it
is released LOW or HIGH as the environment pulls it or not; in `X` and `CLOSED` no level is given. (No level is
`none`: log entry 21.) -/
def Obligations.WireLevels : Prop :=
  ∀ (s : State) (p : Pull),
    clockWire s = (match s.clk with | .low => some .low | .high => some .high | _ => none) ∧
    dataWire p s =
      (match s.dat with
        | .released => some (match p with | .pullLow => .low | .float => .high)
        | .assertLow => some .low
        | _ => none)

end
end

