-- ==== Sys2Proof/Laws/State.lean ====
section
/-! SUPPORT. What each state update does to each field of `State`. -/

namespace Sys2Proof.Machine

/-! ## `accept` -/

@[simp] theorem accept_clk (s : State) : (accept s).clk = s.clk := rfl
@[simp] theorem accept_dat (s : State) : (accept s).dat = s.dat := rfl
@[simp] theorem accept_regs (s : State) : (accept s).regs = s.regs := rfl
@[simp] theorem accept_cnt (s : State) : (accept s).cnt = s.cnt := rfl
@[simp] theorem accept_flags (s : State) : (accept s).flags = { s.flags with busy := true } := rfl
@[simp] theorem accept_err (s : State) : (accept s).err = .none := rfl
@[simp] theorem accept_errInfo (s : State) : (accept s).errInfo = s.errInfo := rfl
@[simp] theorem accept_seq (s : State) : (accept s).seq = s.seq := rfl
@[simp] theorem accept_env (s : State) : (accept s).env = s.env := rfl
@[simp] theorem accept_port (s : State) : (accept s).port = s.port := rfl
@[simp] theorem accept_script (s : State) : (accept s).script = s.script := rfl
@[simp] theorem accept_delays (s : State) : (accept s).delays = s.delays := rfl

/-! ## `complete` -/

@[simp] theorem complete_clk (s : State) : (complete s).clk = s.clk := rfl
@[simp] theorem complete_dat (s : State) : (complete s).dat = s.dat := rfl
@[simp] theorem complete_regs (s : State) : (complete s).regs = s.regs := rfl
@[simp] theorem complete_cnt (s : State) : (complete s).cnt = s.cnt := rfl
@[simp] theorem complete_flags (s : State) : (complete s).flags = { s.flags with busy := false } := rfl
@[simp] theorem complete_err (s : State) : (complete s).err = s.err := rfl
@[simp] theorem complete_errInfo (s : State) : (complete s).errInfo = s.errInfo := rfl
@[simp] theorem complete_seq (s : State) : (complete s).seq = { s.seq with pc := [] } := rfl
@[simp] theorem complete_env (s : State) : (complete s).env = s.env := rfl
@[simp] theorem complete_port (s : State) : (complete s).port = s.port := rfl
@[simp] theorem complete_script (s : State) : (complete s).script = s.script := rfl
@[simp] theorem complete_delays (s : State) : (complete s).delays = s.delays := rfl

/-! ## `setOpened` -/

@[simp] theorem setOpened_clk (b : Bool) (s : State) : (setOpened b s).clk = s.clk := rfl
@[simp] theorem setOpened_dat (b : Bool) (s : State) : (setOpened b s).dat = s.dat := rfl
@[simp] theorem setOpened_regs (b : Bool) (s : State) : (setOpened b s).regs = s.regs := rfl
@[simp] theorem setOpened_cnt (b : Bool) (s : State) : (setOpened b s).cnt = s.cnt := rfl
@[simp] theorem setOpened_flags (b : Bool) (s : State) : (setOpened b s).flags = { s.flags with opened := b } := rfl
@[simp] theorem setOpened_err (b : Bool) (s : State) : (setOpened b s).err = s.err := rfl
@[simp] theorem setOpened_errInfo (b : Bool) (s : State) : (setOpened b s).errInfo = s.errInfo := rfl
@[simp] theorem setOpened_seq (b : Bool) (s : State) : (setOpened b s).seq = s.seq := rfl
@[simp] theorem setOpened_env (b : Bool) (s : State) : (setOpened b s).env = s.env := rfl
@[simp] theorem setOpened_port (b : Bool) (s : State) : (setOpened b s).port = s.port := rfl
@[simp] theorem setOpened_script (b : Bool) (s : State) : (setOpened b s).script = s.script := rfl
@[simp] theorem setOpened_delays (b : Bool) (s : State) : (setOpened b s).delays = s.delays := rfl

/-! ## `setRxValid` -/

@[simp] theorem setRxValid_clk (b : Bool) (s : State) : (setRxValid b s).clk = s.clk := rfl
@[simp] theorem setRxValid_dat (b : Bool) (s : State) : (setRxValid b s).dat = s.dat := rfl
@[simp] theorem setRxValid_regs (b : Bool) (s : State) : (setRxValid b s).regs = s.regs := rfl
@[simp] theorem setRxValid_cnt (b : Bool) (s : State) : (setRxValid b s).cnt = s.cnt := rfl
@[simp] theorem setRxValid_flags (b : Bool) (s : State) :
    (setRxValid b s).flags = { s.flags with rxValid := b } := rfl
@[simp] theorem setRxValid_err (b : Bool) (s : State) : (setRxValid b s).err = s.err := rfl
@[simp] theorem setRxValid_errInfo (b : Bool) (s : State) : (setRxValid b s).errInfo = s.errInfo := rfl
@[simp] theorem setRxValid_seq (b : Bool) (s : State) : (setRxValid b s).seq = s.seq := rfl
@[simp] theorem setRxValid_env (b : Bool) (s : State) : (setRxValid b s).env = s.env := rfl
@[simp] theorem setRxValid_port (b : Bool) (s : State) : (setRxValid b s).port = s.port := rfl
@[simp] theorem setRxValid_script (b : Bool) (s : State) : (setRxValid b s).script = s.script := rfl
@[simp] theorem setRxValid_delays (b : Bool) (s : State) : (setRxValid b s).delays = s.delays := rfl

/-! ## `setValValid` -/

@[simp] theorem setValValid_clk (b : Bool) (s : State) : (setValValid b s).clk = s.clk := rfl
@[simp] theorem setValValid_dat (b : Bool) (s : State) : (setValValid b s).dat = s.dat := rfl
@[simp] theorem setValValid_regs (b : Bool) (s : State) : (setValValid b s).regs = s.regs := rfl
@[simp] theorem setValValid_cnt (b : Bool) (s : State) : (setValValid b s).cnt = s.cnt := rfl
@[simp] theorem setValValid_flags (b : Bool) (s : State) :
    (setValValid b s).flags = { s.flags with valValid := b } := rfl
@[simp] theorem setValValid_err (b : Bool) (s : State) : (setValValid b s).err = s.err := rfl
@[simp] theorem setValValid_errInfo (b : Bool) (s : State) : (setValValid b s).errInfo = s.errInfo := rfl
@[simp] theorem setValValid_seq (b : Bool) (s : State) : (setValValid b s).seq = s.seq := rfl
@[simp] theorem setValValid_env (b : Bool) (s : State) : (setValValid b s).env = s.env := rfl
@[simp] theorem setValValid_port (b : Bool) (s : State) : (setValValid b s).port = s.port := rfl
@[simp] theorem setValValid_script (b : Bool) (s : State) : (setValValid b s).script = s.script := rfl
@[simp] theorem setValValid_delays (b : Bool) (s : State) : (setValValid b s).delays = s.delays := rfl

/-! ## `setPairValid` -/

@[simp] theorem setPairValid_clk (b : Bool) (s : State) : (setPairValid b s).clk = s.clk := rfl
@[simp] theorem setPairValid_dat (b : Bool) (s : State) : (setPairValid b s).dat = s.dat := rfl
@[simp] theorem setPairValid_regs (b : Bool) (s : State) : (setPairValid b s).regs = s.regs := rfl
@[simp] theorem setPairValid_cnt (b : Bool) (s : State) : (setPairValid b s).cnt = s.cnt := rfl
@[simp] theorem setPairValid_flags (b : Bool) (s : State) :
    (setPairValid b s).flags = { s.flags with pairValid := b } := rfl
@[simp] theorem setPairValid_err (b : Bool) (s : State) : (setPairValid b s).err = s.err := rfl
@[simp] theorem setPairValid_errInfo (b : Bool) (s : State) : (setPairValid b s).errInfo = s.errInfo := rfl
@[simp] theorem setPairValid_seq (b : Bool) (s : State) : (setPairValid b s).seq = s.seq := rfl
@[simp] theorem setPairValid_env (b : Bool) (s : State) : (setPairValid b s).env = s.env := rfl
@[simp] theorem setPairValid_port (b : Bool) (s : State) : (setPairValid b s).port = s.port := rfl
@[simp] theorem setPairValid_script (b : Bool) (s : State) : (setPairValid b s).script = s.script := rfl
@[simp] theorem setPairValid_delays (b : Bool) (s : State) : (setPairValid b s).delays = s.delays := rfl

/-! ## `setCrcOk` -/

@[simp] theorem setCrcOk_clk (b : Bool) (s : State) : (setCrcOk b s).clk = s.clk := rfl
@[simp] theorem setCrcOk_dat (b : Bool) (s : State) : (setCrcOk b s).dat = s.dat := rfl
@[simp] theorem setCrcOk_regs (b : Bool) (s : State) : (setCrcOk b s).regs = s.regs := rfl
@[simp] theorem setCrcOk_cnt (b : Bool) (s : State) : (setCrcOk b s).cnt = s.cnt := rfl
@[simp] theorem setCrcOk_flags (b : Bool) (s : State) : (setCrcOk b s).flags = { s.flags with crcOk := b } := rfl
@[simp] theorem setCrcOk_err (b : Bool) (s : State) : (setCrcOk b s).err = s.err := rfl
@[simp] theorem setCrcOk_errInfo (b : Bool) (s : State) : (setCrcOk b s).errInfo = s.errInfo := rfl
@[simp] theorem setCrcOk_seq (b : Bool) (s : State) : (setCrcOk b s).seq = s.seq := rfl
@[simp] theorem setCrcOk_env (b : Bool) (s : State) : (setCrcOk b s).env = s.env := rfl
@[simp] theorem setCrcOk_port (b : Bool) (s : State) : (setCrcOk b s).port = s.port := rfl
@[simp] theorem setCrcOk_script (b : Bool) (s : State) : (setCrcOk b s).script = s.script := rfl
@[simp] theorem setCrcOk_delays (b : Bool) (s : State) : (setCrcOk b s).delays = s.delays := rfl

/-! ## `setClk` -/

@[simp] theorem setClk_clk (c : ClkDriver) (s : State) : (setClk c s).clk = c := rfl
@[simp] theorem setClk_dat (c : ClkDriver) (s : State) : (setClk c s).dat = s.dat := rfl
@[simp] theorem setClk_regs (c : ClkDriver) (s : State) : (setClk c s).regs = s.regs := rfl
@[simp] theorem setClk_cnt (c : ClkDriver) (s : State) : (setClk c s).cnt = s.cnt := rfl
@[simp] theorem setClk_flags (c : ClkDriver) (s : State) : (setClk c s).flags = s.flags := rfl
@[simp] theorem setClk_err (c : ClkDriver) (s : State) : (setClk c s).err = s.err := rfl
@[simp] theorem setClk_errInfo (c : ClkDriver) (s : State) : (setClk c s).errInfo = s.errInfo := rfl
@[simp] theorem setClk_seq (c : ClkDriver) (s : State) : (setClk c s).seq = s.seq := rfl
@[simp] theorem setClk_env (c : ClkDriver) (s : State) : (setClk c s).env = s.env := rfl
@[simp] theorem setClk_port (c : ClkDriver) (s : State) : (setClk c s).port = s.port := rfl
@[simp] theorem setClk_script (c : ClkDriver) (s : State) : (setClk c s).script = s.script := rfl
@[simp] theorem setClk_delays (c : ClkDriver) (s : State) : (setClk c s).delays = s.delays := rfl

/-! ## `setDat` -/

@[simp] theorem setDat_clk (d : DatDriver) (s : State) : (setDat d s).clk = s.clk := rfl
@[simp] theorem setDat_dat (d : DatDriver) (s : State) : (setDat d s).dat = d := rfl
@[simp] theorem setDat_regs (d : DatDriver) (s : State) : (setDat d s).regs = s.regs := rfl
@[simp] theorem setDat_cnt (d : DatDriver) (s : State) : (setDat d s).cnt = s.cnt := rfl
@[simp] theorem setDat_flags (d : DatDriver) (s : State) : (setDat d s).flags = s.flags := rfl
@[simp] theorem setDat_err (d : DatDriver) (s : State) : (setDat d s).err = s.err := rfl
@[simp] theorem setDat_errInfo (d : DatDriver) (s : State) : (setDat d s).errInfo = s.errInfo := rfl
@[simp] theorem setDat_seq (d : DatDriver) (s : State) : (setDat d s).seq = s.seq := rfl
@[simp] theorem setDat_env (d : DatDriver) (s : State) : (setDat d s).env = s.env := rfl
@[simp] theorem setDat_port (d : DatDriver) (s : State) : (setDat d s).port = s.port := rfl
@[simp] theorem setDat_script (d : DatDriver) (s : State) : (setDat d s).script = s.script := rfl
@[simp] theorem setDat_delays (d : DatDriver) (s : State) : (setDat d s).delays = s.delays := rfl

/-! ## `setCrc` -/

@[simp] theorem setCrc_clk (v : Byte) (s : State) : (setCrc v s).clk = s.clk := rfl
@[simp] theorem setCrc_dat (v : Byte) (s : State) : (setCrc v s).dat = s.dat := rfl
@[simp] theorem setCrc_regs (v : Byte) (s : State) : (setCrc v s).regs = { s.regs with crc := v } := rfl
@[simp] theorem setCrc_cnt (v : Byte) (s : State) : (setCrc v s).cnt = s.cnt := rfl
@[simp] theorem setCrc_flags (v : Byte) (s : State) : (setCrc v s).flags = s.flags := rfl
@[simp] theorem setCrc_err (v : Byte) (s : State) : (setCrc v s).err = s.err := rfl
@[simp] theorem setCrc_errInfo (v : Byte) (s : State) : (setCrc v s).errInfo = s.errInfo := rfl
@[simp] theorem setCrc_seq (v : Byte) (s : State) : (setCrc v s).seq = s.seq := rfl
@[simp] theorem setCrc_env (v : Byte) (s : State) : (setCrc v s).env = s.env := rfl
@[simp] theorem setCrc_port (v : Byte) (s : State) : (setCrc v s).port = s.port := rfl
@[simp] theorem setCrc_script (v : Byte) (s : State) : (setCrc v s).script = s.script := rfl
@[simp] theorem setCrc_delays (v : Byte) (s : State) : (setCrc v s).delays = s.delays := rfl

/-! ## `setRxb` -/

@[simp] theorem setRxb_clk (v : Byte) (s : State) : (setRxb v s).clk = s.clk := rfl
@[simp] theorem setRxb_dat (v : Byte) (s : State) : (setRxb v s).dat = s.dat := rfl
@[simp] theorem setRxb_regs (v : Byte) (s : State) : (setRxb v s).regs = { s.regs with rxb := v } := rfl
@[simp] theorem setRxb_cnt (v : Byte) (s : State) : (setRxb v s).cnt = s.cnt := rfl
@[simp] theorem setRxb_flags (v : Byte) (s : State) : (setRxb v s).flags = s.flags := rfl
@[simp] theorem setRxb_err (v : Byte) (s : State) : (setRxb v s).err = s.err := rfl
@[simp] theorem setRxb_errInfo (v : Byte) (s : State) : (setRxb v s).errInfo = s.errInfo := rfl
@[simp] theorem setRxb_seq (v : Byte) (s : State) : (setRxb v s).seq = s.seq := rfl
@[simp] theorem setRxb_env (v : Byte) (s : State) : (setRxb v s).env = s.env := rfl
@[simp] theorem setRxb_port (v : Byte) (s : State) : (setRxb v s).port = s.port := rfl
@[simp] theorem setRxb_script (v : Byte) (s : State) : (setRxb v s).script = s.script := rfl
@[simp] theorem setRxb_delays (v : Byte) (s : State) : (setRxb v s).delays = s.delays := rfl

/-! ## `setRegs` -/

@[simp] theorem setRegs_clk (r : Regs) (s : State) : (setRegs r s).clk = s.clk := rfl
@[simp] theorem setRegs_dat (r : Regs) (s : State) : (setRegs r s).dat = s.dat := rfl
@[simp] theorem setRegs_regs (r : Regs) (s : State) : (setRegs r s).regs = r := rfl
@[simp] theorem setRegs_cnt (r : Regs) (s : State) : (setRegs r s).cnt = s.cnt := rfl
@[simp] theorem setRegs_flags (r : Regs) (s : State) : (setRegs r s).flags = s.flags := rfl
@[simp] theorem setRegs_err (r : Regs) (s : State) : (setRegs r s).err = s.err := rfl
@[simp] theorem setRegs_errInfo (r : Regs) (s : State) : (setRegs r s).errInfo = s.errInfo := rfl
@[simp] theorem setRegs_seq (r : Regs) (s : State) : (setRegs r s).seq = s.seq := rfl
@[simp] theorem setRegs_env (r : Regs) (s : State) : (setRegs r s).env = s.env := rfl
@[simp] theorem setRegs_port (r : Regs) (s : State) : (setRegs r s).port = s.port := rfl
@[simp] theorem setRegs_script (r : Regs) (s : State) : (setRegs r s).script = s.script := rfl
@[simp] theorem setRegs_delays (r : Regs) (s : State) : (setRegs r s).delays = s.delays := rfl

/-! ## `setCnt` -/

@[simp] theorem setCnt_clk (c : Counters) (s : State) : (setCnt c s).clk = s.clk := rfl
@[simp] theorem setCnt_dat (c : Counters) (s : State) : (setCnt c s).dat = s.dat := rfl
@[simp] theorem setCnt_regs (c : Counters) (s : State) : (setCnt c s).regs = s.regs := rfl
@[simp] theorem setCnt_cnt (c : Counters) (s : State) : (setCnt c s).cnt = c := rfl
@[simp] theorem setCnt_flags (c : Counters) (s : State) : (setCnt c s).flags = s.flags := rfl
@[simp] theorem setCnt_err (c : Counters) (s : State) : (setCnt c s).err = s.err := rfl
@[simp] theorem setCnt_errInfo (c : Counters) (s : State) : (setCnt c s).errInfo = s.errInfo := rfl
@[simp] theorem setCnt_seq (c : Counters) (s : State) : (setCnt c s).seq = s.seq := rfl
@[simp] theorem setCnt_env (c : Counters) (s : State) : (setCnt c s).env = s.env := rfl
@[simp] theorem setCnt_port (c : Counters) (s : State) : (setCnt c s).port = s.port := rfl
@[simp] theorem setCnt_script (c : Counters) (s : State) : (setCnt c s).script = s.script := rfl
@[simp] theorem setCnt_delays (c : Counters) (s : State) : (setCnt c s).delays = s.delays := rfl

/-! ## `setEnv` -/

@[simp] theorem setEnv_clk (e : Env) (s : State) : (setEnv e s).clk = s.clk := rfl
@[simp] theorem setEnv_dat (e : Env) (s : State) : (setEnv e s).dat = s.dat := rfl
@[simp] theorem setEnv_regs (e : Env) (s : State) : (setEnv e s).regs = s.regs := rfl
@[simp] theorem setEnv_cnt (e : Env) (s : State) : (setEnv e s).cnt = s.cnt := rfl
@[simp] theorem setEnv_flags (e : Env) (s : State) : (setEnv e s).flags = s.flags := rfl
@[simp] theorem setEnv_err (e : Env) (s : State) : (setEnv e s).err = s.err := rfl
@[simp] theorem setEnv_errInfo (e : Env) (s : State) : (setEnv e s).errInfo = s.errInfo := rfl
@[simp] theorem setEnv_seq (e : Env) (s : State) : (setEnv e s).seq = s.seq := rfl
@[simp] theorem setEnv_env (e : Env) (s : State) : (setEnv e s).env = e := rfl
@[simp] theorem setEnv_port (e : Env) (s : State) : (setEnv e s).port = s.port := rfl
@[simp] theorem setEnv_script (e : Env) (s : State) : (setEnv e s).script = s.script := rfl
@[simp] theorem setEnv_delays (e : Env) (s : State) : (setEnv e s).delays = s.delays := rfl

/-! ## `setDelays` -/

@[simp] theorem setDelays_clk (d : Delays) (s : State) : (setDelays d s).clk = s.clk := rfl
@[simp] theorem setDelays_dat (d : Delays) (s : State) : (setDelays d s).dat = s.dat := rfl
@[simp] theorem setDelays_regs (d : Delays) (s : State) : (setDelays d s).regs = s.regs := rfl
@[simp] theorem setDelays_cnt (d : Delays) (s : State) : (setDelays d s).cnt = s.cnt := rfl
@[simp] theorem setDelays_flags (d : Delays) (s : State) : (setDelays d s).flags = s.flags := rfl
@[simp] theorem setDelays_err (d : Delays) (s : State) : (setDelays d s).err = s.err := rfl
@[simp] theorem setDelays_errInfo (d : Delays) (s : State) : (setDelays d s).errInfo = s.errInfo := rfl
@[simp] theorem setDelays_seq (d : Delays) (s : State) : (setDelays d s).seq = s.seq := rfl
@[simp] theorem setDelays_env (d : Delays) (s : State) : (setDelays d s).env = s.env := rfl
@[simp] theorem setDelays_port (d : Delays) (s : State) : (setDelays d s).port = s.port := rfl
@[simp] theorem setDelays_script (d : Delays) (s : State) : (setDelays d s).script = s.script := rfl
@[simp] theorem setDelays_delays (d : Delays) (s : State) : (setDelays d s).delays = d := rfl

/-! ## `setTemp` -/

@[simp] theorem setTemp_clk (t : Half) (s : State) : (setTemp t s).clk = s.clk := rfl
@[simp] theorem setTemp_dat (t : Half) (s : State) : (setTemp t s).dat = s.dat := rfl
@[simp] theorem setTemp_regs (t : Half) (s : State) : (setTemp t s).regs = s.regs := rfl
@[simp] theorem setTemp_cnt (t : Half) (s : State) : (setTemp t s).cnt = s.cnt := rfl
@[simp] theorem setTemp_flags (t : Half) (s : State) : (setTemp t s).flags = s.flags := rfl
@[simp] theorem setTemp_err (t : Half) (s : State) : (setTemp t s).err = s.err := rfl
@[simp] theorem setTemp_errInfo (t : Half) (s : State) : (setTemp t s).errInfo = s.errInfo := rfl
@[simp] theorem setTemp_seq (t : Half) (s : State) : (setTemp t s).seq = { s.seq with t := t } := rfl
@[simp] theorem setTemp_env (t : Half) (s : State) : (setTemp t s).env = s.env := rfl
@[simp] theorem setTemp_port (t : Half) (s : State) : (setTemp t s).port = s.port := rfl
@[simp] theorem setTemp_script (t : Half) (s : State) : (setTemp t s).script = s.script := rfl
@[simp] theorem setTemp_delays (t : Half) (s : State) : (setTemp t s).delays = s.delays := rfl

/-! ## `setSample` -/

@[simp] theorem setSample_clk (d : Bool) (s : State) : (setSample d s).clk = s.clk := rfl
@[simp] theorem setSample_dat (d : Bool) (s : State) : (setSample d s).dat = s.dat := rfl
@[simp] theorem setSample_regs (d : Bool) (s : State) : (setSample d s).regs = s.regs := rfl
@[simp] theorem setSample_cnt (d : Bool) (s : State) : (setSample d s).cnt = s.cnt := rfl
@[simp] theorem setSample_flags (d : Bool) (s : State) : (setSample d s).flags = s.flags := rfl
@[simp] theorem setSample_err (d : Bool) (s : State) : (setSample d s).err = s.err := rfl
@[simp] theorem setSample_errInfo (d : Bool) (s : State) : (setSample d s).errInfo = s.errInfo := rfl
@[simp] theorem setSample_seq (d : Bool) (s : State) : (setSample d s).seq = { s.seq with d := d } := rfl
@[simp] theorem setSample_env (d : Bool) (s : State) : (setSample d s).env = s.env := rfl
@[simp] theorem setSample_port (d : Bool) (s : State) : (setSample d s).port = s.port := rfl
@[simp] theorem setSample_script (d : Bool) (s : State) : (setSample d s).script = s.script := rfl
@[simp] theorem setSample_delays (d : Bool) (s : State) : (setSample d s).delays = s.delays := rfl

/-! ## `setPc` -/

@[simp] theorem setPc_clk (k : List Stmt) (s : State) : (setPc k s).clk = s.clk := rfl
@[simp] theorem setPc_dat (k : List Stmt) (s : State) : (setPc k s).dat = s.dat := rfl
@[simp] theorem setPc_regs (k : List Stmt) (s : State) : (setPc k s).regs = s.regs := rfl
@[simp] theorem setPc_cnt (k : List Stmt) (s : State) : (setPc k s).cnt = s.cnt := rfl
@[simp] theorem setPc_flags (k : List Stmt) (s : State) : (setPc k s).flags = s.flags := rfl
@[simp] theorem setPc_err (k : List Stmt) (s : State) : (setPc k s).err = s.err := rfl
@[simp] theorem setPc_errInfo (k : List Stmt) (s : State) : (setPc k s).errInfo = s.errInfo := rfl
@[simp] theorem setPc_seq (k : List Stmt) (s : State) : (setPc k s).seq = { s.seq with pc := k } := rfl
@[simp] theorem setPc_env (k : List Stmt) (s : State) : (setPc k s).env = s.env := rfl
@[simp] theorem setPc_port (k : List Stmt) (s : State) : (setPc k s).port = s.port := rfl
@[simp] theorem setPc_script (k : List Stmt) (s : State) : (setPc k s).script = s.script := rfl
@[simp] theorem setPc_delays (k : List Stmt) (s : State) : (setPc k s).delays = s.delays := rfl

/-! ## `abort` -/

@[simp] theorem abort_clk (r : Raised) (s : State) : (abort r s).clk = s.clk := rfl
@[simp] theorem abort_dat (r : Raised) (s : State) : (abort r s).dat = s.dat := rfl
@[simp] theorem abort_regs (r : Raised) (s : State) : (abort r s).regs = s.regs := rfl
@[simp] theorem abort_cnt (r : Raised) (s : State) : (abort r s).cnt = s.cnt := rfl
@[simp] theorem abort_flags (r : Raised) (s : State) :
    (abort r s).flags = { s.flags with busy := false, rxValid := false, valValid := false, pairValid := false } := rfl
@[simp] theorem abort_err (r : Raised) (s : State) : (abort r s).err = r.kind := rfl
@[simp] theorem abort_errInfo (r : Raised) (s : State) : (abort r s).errInfo = r.info s.errInfo := rfl
@[simp] theorem abort_seq (r : Raised) (s : State) : (abort r s).seq = { s.seq with pc := [] } := rfl
@[simp] theorem abort_env (r : Raised) (s : State) : (abort r s).env = s.env := rfl
@[simp] theorem abort_port (r : Raised) (s : State) : (abort r s).port = s.port := rfl
@[simp] theorem abort_script (r : Raised) (s : State) : (abort r s).script = s.script := rfl
@[simp] theorem abort_delays (r : Raised) (s : State) : (abort r s).delays = s.delays := rfl

end Sys2Proof.Machine
end

