-- ==== Sys2Proof/Laws/Ops.lean ====
section
/-! SUPPORT. What the shared operations of Machine/Ops.lean can do, said once: the feeds, the interface calls, the line
action, and the starting of a command. -/

namespace Sys2Proof.Machine

/-! ## Feeds -/

@[simp] theorem Feed.take_cons {α : Type} (a : α) (q : List α) (r : Option α) (free : α) :
    Feed.take ⟨a :: q, r⟩ free = (a, ⟨q, r⟩) := rfl

@[simp] theorem Feed.take_rest {α : Type} (a free : α) :
    Feed.take ⟨[], some a⟩ free = (a, ⟨[], some a⟩) := rfl

@[simp] theorem Feed.take_free {α : Type} (free : α) :
    Feed.take ⟨[], none⟩ free = (free, ⟨[], none⟩) := rfl

theorem Feed.begins_rest {α : Type} (a : α) : ∀ n, Feed.Begins (List.replicate n a) ⟨[], some a⟩
  | 0 => trivial
  | n + 1 => fun _ => ⟨rfl, Feed.begins_rest a n⟩

theorem Feed.begins_queue {α : Type} : ∀ (l more : List α) (r : Option α), Feed.Begins l ⟨l ++ more, r⟩
  | [], _, _ => trivial
  | _ :: l, more, r => fun _ => ⟨rfl, Feed.begins_queue l more r⟩

/-- A beginning followed by the rest of a tape: what is left after the first answer. -/
theorem Feed.begins_cons {α : Type} {a : α} {l : List α} {f : Feed α} (h : Feed.Begins (a :: l) f) (free : α) :
    f.take free = (a, (f.take free).2) ∧ Feed.Begins l (f.take free).2 :=
  ⟨Prod.ext (h free).1 rfl, (h free).2⟩

/-! ## Interface calls -/

/-- The environment's answer to a fallible call when the feed begins with it. -/
theorem Env.takeAnswer_of_begins {e : Env} {a : Answer} {l : List Answer}
    (h : Feed.Begins (a :: l) e.answers) :
    ∃ e', e.takeAnswer = (a, e') ∧ Feed.Begins l e'.answers ∧ e'.pulls = e.pulls :=
  ⟨e.takeAnswer.2, Prod.ext (h _).1 rfl, (h _).2, rfl⟩

/-- What pulls DATA at a sample when the feed begins with it. -/
theorem Env.takePull_of_begins {e : Env} {p : Pull} {l : List Pull} (h : Feed.Begins (p :: l) e.pulls) :
    ∃ e', e.takePull = (p, e') ∧ Feed.Begins l e'.pulls ∧ e'.answers = e.answers :=
  ⟨e.takePull.2, Prod.ext (h _).1 rfl, (h _).2, rfl⟩

@[simp] theorem Env.calls_nil (e : Env) : Env.calls [] e = (.ok, e) := rfl

/-- One fallible call: its answer is the environment's. -/
theorem Env.calls_single {c : LineCall} (hc : c.fallible = true) (e : Env) : Env.calls [c] e = e.takeAnswer := by
  unfold Env.calls Env.call
  rcases h : e.takeAnswer with ⟨a, e'⟩
  cases a <;> simp [hc, Env.calls]

/-- A call that cannot fail takes no answer. -/
theorem Env.calls_infallible {c : LineCall} (hc : c.fallible = false) (cs : List LineCall) (e : Env) :
    Env.calls (c :: cs) e = Env.calls cs e := by
  simp [Env.calls, Env.call, hc]

/-- Interface calls take answers and leave the samples alone. -/
theorem Env.calls_pulls : ∀ (cs : List LineCall) (e : Env), (Env.calls cs e).2.pulls = e.pulls
  | [], _ => rfl
  | c :: cs, e => by
    have hc : (Env.call c e).2.pulls = e.pulls := by
      unfold Env.call
      split <;> rfl
    unfold Env.calls
    rcases h : Env.call c e with ⟨a, e'⟩
    rw [h] at hc
    cases a with
    | ok => exact (Env.calls_pulls cs e').trans hc
    | fail p => exact hc

/-! ## The interface calls of each micro-operation -/

@[simp] theorem calls_cko (d : DatDriver) (e : Env) : Env.calls (lineCalls d .cko) e = e.takeAnswer :=
  Env.calls_single rfl e

@[simp] theorem calls_ckl (d : DatDriver) (e : Env) : Env.calls (lineCalls d .ckl) e = e.takeAnswer :=
  Env.calls_single rfl e

@[simp] theorem calls_ckh (d : DatDriver) (e : Env) : Env.calls (lineCalls d .ckh) e = e.takeAnswer :=
  Env.calls_single rfl e

@[simp] theorem calls_drd (d : DatDriver) (e : Env) : Env.calls (lineCalls d .drd) e = e.takeAnswer :=
  Env.calls_single rfl e

@[simp] theorem calls_dth (d : DatDriver) (e : Env) : Env.calls (lineCalls d .dth) e = (.ok, e) := rfl

@[simp] theorem calls_cls (d : DatDriver) (e : Env) : Env.calls (lineCalls d .cls) e = (.ok, e) := rfl

/-- `DTL` on an opened line takes one answer. -/
theorem calls_dtl {d : DatDriver} (h : d ≠ .closed) (e : Env) : Env.calls (lineCalls d .dtl) e = e.takeAnswer := by
  simp only [lineCalls, h, if_false]
  rw [Env.calls_infallible rfl, Env.calls_single rfl]

/-- `DTL` on a closed line takes an answer to the `open`, and, if that succeeded, one to the `write`. -/
theorem calls_dtl_closed {e e' : Env} (h : e.takeAnswer = (.ok, e')) :
    Env.calls (lineCalls .closed .dtl) e = e'.takeAnswer := by
  rw [← Env.calls_single (c := .write .data .low) rfl e']
  simp [lineCalls, Env.calls, Env.call, LineCall.fallible, h]

/-- A failed `open` ends `DTL` on a closed line. -/
theorem calls_dtl_closed_fail {e e' : Env} {p : Payload} (h : e.takeAnswer = (.fail p, e')) :
    Env.calls (lineCalls .closed .dtl) e = (.fail p, e') := by
  simp [lineCalls, Env.calls, Env.call, LineCall.fallible, h]

/-- Under `LineOk` the next call succeeds, the samples ahead are kept, and so is `LineOk`. -/
theorem LineOk.takeAnswer {s : State} (h : LineOk s) :
    ∃ e, s.env.takeAnswer = (.ok, e) ∧ e.pulls = s.env.pulls ∧ ∀ n, Feed.Begins (List.replicate n Answer.ok) e.answers := by
  refine ⟨s.env.takeAnswer.2, Prod.ext (h 1 _).1 rfl, rfl, fun n => ?_⟩
  exact (h (n + 1) (Config.freeAnswer s.env.draws)).2

/-! ## Line actions -/

/-- A line action always answers a next state: it succeeded, or it failed and aborted. -/
theorem lineAction_cases (cs : List LineCall) (onOk onFail : State → State) (s : State) :
    (∃ e, Env.calls cs s.env = (.ok, e) ∧ lineAction cs onOk onFail s = .next (onOk (setEnv e s))) ∨
    (∃ p e, Env.calls cs s.env = (.fail p, e) ∧
      lineAction cs onOk onFail s = .next (abort (.lineIo p) (onFail (setEnv e s)))) := by
  unfold lineAction
  rcases h : Env.calls cs s.env with ⟨a, e⟩
  cases a with
  | ok => exact .inl ⟨e, rfl, rfl⟩
  | fail p => exact .inr ⟨p, e, rfl, rfl⟩

theorem lineAction_ok {cs : List LineCall} {onOk onFail : State → State} {s : State} {e : Env}
    (h : Env.calls cs s.env = (.ok, e)) : lineAction cs onOk onFail s = .next (onOk (setEnv e s)) := by
  simp [lineAction, h]

theorem lineAction_fail {cs : List LineCall} {onOk onFail : State → State} {s : State} {p : Payload} {e : Env}
    (h : Env.calls cs s.env = (.fail p, e)) :
    lineAction cs onOk onFail s = .next (abort (.lineIo p) (onFail (setEnv e s))) := by
  simp [lineAction, h]

/-- What a line action answered: it succeeded, or it failed and aborted. -/
theorem lineAction_next {cs : List LineCall} {onOk onFail : State → State} {s t : State}
    (h : lineAction cs onOk onFail s = .next t) :
    (∃ e, Env.calls cs s.env = (.ok, e) ∧ t = onOk (setEnv e s)) ∨
    (∃ p e, Env.calls cs s.env = (.fail p, e) ∧ t = abort (.lineIo p) (onFail (setEnv e s))) := by
  rcases lineAction_cases cs onOk onFail s with ⟨e, h1, h2⟩ | ⟨p, e, h1, h2⟩ <;> rw [h2] at h <;> cases h
  · exact .inl ⟨e, h1, rfl⟩
  · exact .inr ⟨p, e, h1, rfl⟩

/-! ## The sample -/

@[simp] theorem sample_clk (s : State) : (sample s).clk = s.clk := rfl
@[simp] theorem sample_dat (s : State) : (sample s).dat = s.dat := rfl
@[simp] theorem sample_regs (s : State) : (sample s).regs = s.regs := rfl
@[simp] theorem sample_cnt (s : State) : (sample s).cnt = s.cnt := rfl
@[simp] theorem sample_flags (s : State) : (sample s).flags = s.flags := rfl
@[simp] theorem sample_err (s : State) : (sample s).err = s.err := rfl
@[simp] theorem sample_errInfo (s : State) : (sample s).errInfo = s.errInfo := rfl
@[simp] theorem sample_port (s : State) : (sample s).port = s.port := rfl
@[simp] theorem sample_script (s : State) : (sample s).script = s.script := rfl
@[simp] theorem sample_delays (s : State) : (sample s).delays = s.delays := rfl
@[simp] theorem sample_pc (s : State) : (sample s).seq.pc = s.seq.pc := rfl
@[simp] theorem sample_t (s : State) : (sample s).seq.t = s.seq.t := rfl
@[simp] theorem sample_env (s : State) : (sample s).env = s.env.takePull.2 := rfl

/-- A sample of released DATA is what pulls it. -/
theorem sample_released {s : State} (h : s.dat = .released) : (sample s).seq.d = pullBit s.env.takePull.1 := by
  simp [sample, h]

/-! ## Starting a command -/

theorem startCommand_cases (begin : State → State) (s : State) :
    (s.flags.busy = true ∧ startCommand begin s = .refused .commandWhileBusy) ∨
    (s.flags.busy = false ∧ startCommand begin s = .next (begin (accept s))) := by
  cases h : s.flags.busy <;> simp [startCommand, h]

theorem startBusCommand_cases (begin : State → State) (s : State) :
    (s.flags.busy = true ∧ startBusCommand begin s = .refused .commandWhileBusy) ∨
    (s.flags.busy = false ∧ s.flags.opened = false ∧ startBusCommand begin s = .refused .linesNotOpened) ∨
    (s.flags.busy = false ∧ s.flags.opened = true ∧ startBusCommand begin s = .next (begin (accept s))) := by
  cases h : s.flags.busy <;> cases g : s.flags.opened <;> simp [startBusCommand, h, g]

end Sys2Proof.Machine
end

