-- ==== Sys2Proof/Laws/PerInstr.lean ====
section
/-! SUPPORT. Statements made instruction by instruction: each instruction is encoded at its own layer, a command as a
16-bit word, a micro-operation as a 4-bit code (30_encoding.md R80, R87, R91). -/

namespace Sys2Proof.Laws.EncodedAtLayer

/-- The encoding of `i` is of `i`'s layer, and `i` is well-formed there and nowhere else. -/
def Statement (i : Instr) : Prop :=
  (encode i).layer = i.layer ∧ ∀ l, i.wellFormedAt l = true ↔ l = (encode i).layer

/-- It is enough that the encoding is of the instruction's layer. -/
theorem of_layer {i : Instr} (h : (encode i).layer = i.layer) : Statement i :=
  ⟨h, fun l => by simp [Instr.wellFormedAt, h, eq_comm]⟩

theorem initLines : Statement .initLines := of_layer rfl
theorem shutdown : Statement .shutdown := of_layer rfl
theorem reset : Statement .reset := of_layer rfl
theorem tstart : Statement .tstart := of_layer rfl
theorem sendByte (v : Byte) : Statement (.sendByte v) := of_layer rfl
theorem recvByte (ack : Bool) : Statement (.recvByte ack) := of_layer rfl
theorem startMeas (q : Quantity) : Statement (.startMeas q) := of_layer rfl
theorem awaitRead : Statement .awaitRead := of_layer rfl
theorem read (q : Quantity) : Statement (.read q) := of_layer rfl
theorem readAll : Statement .readAll := of_layer rfl
theorem crcReset : Statement .crcReset := of_layer rfl
theorem crcUpdate (v : Byte) : Statement (.crcUpdate v) := of_layer rfl
theorem crcValue : Statement .crcValue := of_layer rfl
theorem crcVerify (v : Byte) : Statement (.crcVerify v) := of_layer rfl
theorem ws : Statement .ws := of_layer rfl
theorem wl : Statement .wl := of_layer rfl
theorem wp : Statement .wp := of_layer rfl
theorem cko : Statement .cko := of_layer rfl
theorem ckl : Statement .ckl := of_layer rfl
theorem ckh : Statement .ckh := of_layer rfl
theorem dtl : Statement .dtl := of_layer rfl
theorem dth : Statement .dth := of_layer rfl
theorem drd : Statement .drd := of_layer rfl
theorem cls : Statement .cls := of_layer rfl
theorem crs : Statement .crs := of_layer rfl
theorem cup (v : Byte) : Statement (.cup v) := of_layer rfl

end Sys2Proof.Laws.EncodedAtLayer
end

