-- ==== Sys2Proof/Laws/Sequencer.lean ====
section
/-! SUPPORT. What the control lines do: each line's equation, and what no control line touches. -/

namespace Sys2Proof.Machine

/-! ## One equation per line -/

@[simp] theorem settle_nil (s : State) : settle [] s = complete s := rfl

@[simp] theorem settle_exec (u : Instr) (k : List Stmt) (s : State) :
    settle (.exec u :: k) s = setPc (.exec u :: k) s := rfl

@[simp] theorem settle_execDataBit (v : Byte) (k : List Stmt) (s : State) :
    settle (.execDataBit v :: k) s = setPc (.execDataBit v :: k) s := rfl

@[simp] theorem settle_execCupHi (k : List Stmt) (s : State) :
    settle (.execCupHi :: k) s = setPc (.execCupHi :: k) s := rfl

@[simp] theorem settle_execCupLo (k : List Stmt) (s : State) :
    settle (.execCupLo :: k) s = setPc (.execCupLo :: k) s := rfl

theorem settle_sendNext (v : Byte) (k : List Stmt) (s : State) :
    settle (.sendNext v :: k) s =
      if s.cnt.bitcnt = 0 then settle k s
      else setPc (sendSlot v ++ .sendNext v :: k) (setCnt { s.cnt with bitcnt := s.cnt.bitcnt - 1 } s) := rfl

theorem settle_ackTest (k : List Stmt) (s : State) :
    settle (.ackTest :: k) s = if s.seq.d then abort .notAcknowledged s else settle k s := rfl

theorem settle_recvOr (k : List Stmt) (s : State) :
    settle (.recvOr :: k) s =
      settle k (if s.seq.d then setRxb (setBit s.regs.rxb s.cnt.bitcnt) s else s) := rfl

theorem settle_recvNext (k : List Stmt) (s : State) :
    settle (.recvNext :: k) s =
      if s.cnt.bitcnt = 0 then settle k s
      else setPc (recvSlot ++ .recvNext :: k) (setCnt { s.cnt with bitcnt := s.cnt.bitcnt - 1 } s) := rfl

@[simp] theorem settle_recvDone (k : List Stmt) (s : State) :
    settle (.recvDone :: k) s = settle k (setRxValid true s) := rfl

@[simp] theorem settle_pulseStart (k : List Stmt) (s : State) :
    settle (.pulseStart :: k) s =
      setPc (pulse ++ .pulseNext :: k) (setCnt { s.cnt with clkcnt := 1 } s) := rfl

theorem settle_pulseNext (k : List Stmt) (s : State) :
    settle (.pulseNext :: k) s =
      if s.cnt.clkcnt = Config.nResetClocks then settle k s
      else setPc (pulse ++ .pulseNext :: k) (setCnt { s.cnt with clkcnt := s.cnt.clkcnt + 1 } s) := rfl

theorem settle_pollNext (k : List Stmt) (s : State) :
    settle (.pollNext :: k) s =
      if s.seq.d then pollTop k (setCnt { s.cnt with attempt := s.cnt.attempt + 1 } s)
      else settle k (setCnt { s.cnt with attempt := s.cnt.attempt + 1 } s) := rfl

@[simp] theorem settle_hiFromRxb (k : List Stmt) (s : State) :
    settle (.hiFromRxb :: k) s = settle k (setRegs { s.regs with hi := s.regs.rxb } s) := rfl

@[simp] theorem settle_loFromRxb (k : List Stmt) (s : State) :
    settle (.loFromRxb :: k) s = settle k (setRegs { s.regs with lo := s.regs.rxb } s) := rfl

@[simp] theorem settle_chkFromRxb (k : List Stmt) (s : State) :
    settle (.chkFromRxb :: k) s = settle k (setRegs { s.regs with chk := s.regs.rxb } s) := rfl

theorem settle_checksum (k : List Stmt) (s : State) :
    settle (.checksum :: k) s =
      if checksumMatches s.regs.chk s then settle k (deliverValue s)
      else abort .checksumMismatch (setCrcOk false s) := rfl

@[simp] theorem settle_saveTemperature (k : List Stmt) (s : State) :
    settle (.saveTemperature :: k) s = settle k (setTemp s.regs.val s) := rfl

@[simp] theorem settle_deliverPair (k : List Stmt) (s : State) :
    settle (.deliverPair :: k) s =
      settle k (setPairValid true (setRegs { s.regs with rawT := s.seq.t, rawH := s.regs.val } s)) := rfl

@[simp] theorem settle_markOpened (k : List Stmt) (s : State) :
    settle (.markOpened :: k) s = settle k (setOpened true s) := rfl

@[simp] theorem settle_callTstart (k : List Stmt) (s : State) :
    settle (.callTstart :: k) s = beginTstart k s := rfl

@[simp] theorem settle_callSendByte (v : Byte) (k : List Stmt) (s : State) :
    settle (.callSendByte v :: k) s = beginSendByte v k s := rfl

@[simp] theorem settle_callRecvByte (ack : Bool) (k : List Stmt) (s : State) :
    settle (.callRecvByte ack :: k) s = beginRecvByte ack k s := rfl

@[simp] theorem settle_callAwaitRead (k : List Stmt) (s : State) :
    settle (.callAwaitRead :: k) s = beginAwaitRead k s := rfl

@[simp] theorem settle_callRead (q : Quantity) (k : List Stmt) (s : State) :
    settle (.callRead q :: k) s = beginRead q k s := rfl

/-! ## What the control lines leave alone -/

/-- The fields no control line, abort or completion touches. -/
structure SameWires (s t : State) : Prop where
  clk : t.clk = s.clk
  dat : t.dat = s.dat
  crc : t.regs.crc = s.regs.crc
  env : t.env = s.env
  port : t.port = s.port
  script : t.script = s.script
  delays : t.delays = s.delays

theorem SameWires.refl (s : State) : SameWires s s := ⟨rfl, rfl, rfl, rfl, rfl, rfl, rfl⟩

theorem SameWires.trans {s t u : State} (h : SameWires s t) (g : SameWires t u) : SameWires s u :=
  ⟨g.clk.trans h.clk, g.dat.trans h.dat, g.crc.trans h.crc, g.env.trans h.env, g.port.trans h.port,
    g.script.trans h.script, g.delays.trans h.delays⟩

theorem pollTop_sameWires (k : List Stmt) (s : State) : SameWires s (pollTop k s) := by
  unfold pollTop
  split <;> exact ⟨rfl, rfl, rfl, rfl, rfl, rfl, rfl⟩

theorem settle_sameWires : ∀ (k : List Stmt) (s : State), SameWires s (settle k s)
  | [], s => ⟨rfl, rfl, rfl, rfl, rfl, rfl, rfl⟩
  | st :: k, s => by
    have keep : ∀ t, SameWires s t → SameWires s (settle k t) :=
      fun t h => h.trans (settle_sameWires k t)
    cases st
    case sendNext | recvNext | pulseNext | ackTest =>
      simp only [settle]
      split
      · first | exact keep s (SameWires.refl s) | exact ⟨rfl, rfl, rfl, rfl, rfl, rfl, rfl⟩
      · first | exact keep s (SameWires.refl s) | exact ⟨rfl, rfl, rfl, rfl, rfl, rfl, rfl⟩
    case recvOr =>
      refine keep _ ?_
      split <;> exact ⟨rfl, rfl, rfl, rfl, rfl, rfl, rfl⟩
    case pollNext =>
      rw [settle_pollNext]
      split
      · exact SameWires.trans (t := setCnt { s.cnt with attempt := s.cnt.attempt + 1 } s)
          ⟨rfl, rfl, rfl, rfl, rfl, rfl, rfl⟩ (pollTop_sameWires k _)
      · exact keep _ ⟨rfl, rfl, rfl, rfl, rfl, rfl, rfl⟩
    case checksum =>
      rw [settle_checksum]
      split
      · exact keep _ ⟨rfl, rfl, rfl, rfl, rfl, rfl, rfl⟩
      · exact ⟨rfl, rfl, rfl, rfl, rfl, rfl, rfl⟩
    case callAwaitRead =>
      exact SameWires.trans (t := setCnt { s.cnt with attempt := 0 } (setValValid false s)) ⟨rfl, rfl, rfl, rfl, rfl, rfl, rfl⟩
        (pollTop_sameWires (readout ++ k) _)
    all_goals first
      | exact ⟨rfl, rfl, rfl, rfl, rfl, rfl, rfl⟩
      | exact keep _ ⟨rfl, rfl, rfl, rfl, rfl, rfl, rfl⟩

end Sys2Proof.Machine
end

