-- ==== Sys2Proof/Laws/Step.lean ====
section
/-! SUPPORT. What a step can be, and how runs compose. -/

namespace Sys2Proof.Machine

/-! ## Runs -/

@[simp] theorem runs_zero (s : State) : Runs 0 s s := rfl

theorem runs_succ {n : Nat} {s t u : State} (h : step s = .next t) (g : Runs n t u) : Runs (n + 1) s u :=
  ⟨t, h, g⟩

theorem runs_one {s t : State} (h : step s = .next t) : Runs 1 s t := ⟨t, h, rfl⟩

theorem runs_trans : ∀ {m n : Nat} {s t u : State}, Runs m s t → Runs n t u → Runs (m + n) s u
  | 0, n, s, t, u, h, g => by
    obtain rfl : s = t := h
    simpa using g
  | m + 1, n, s, t, u, ⟨r, hr, h⟩, g => by
    rw [Nat.add_right_comm]
    exact ⟨r, hr, runs_trans h g⟩

/-- A run is the host's run of the core. -/
theorem runs_iff_core_run : ∀ (n : Nat) (s t : State), Runs n s t ↔ Host.Core.run Sys2Proof.core n s = .next t
  | 0, s, t => ⟨fun h => congrArg Host.Outcome.next h, fun h => Host.Outcome.next.inj h⟩
  | n + 1, s, t => by
    cases hs : step s with
    | next r =>
      have hc : Sys2Proof.core.step s = .next r := hs
      simp only [Runs, Host.Core.run, hs, hc, Host.Outcome.next.injEq, exists_eq_left']
      exact runs_iff_core_run n r t
    | fault f =>
      have hc : Sys2Proof.core.step s = .fault f := hs
      simp [Runs, Host.Core.run, hs, hc]
    | refused q =>
      have hc : Sys2Proof.core.step s = .refused q := hs
      simp [Runs, Host.Core.run, hs, hc]

/-- A machine is deterministic: one run of a length. -/
theorem runs_unique : ∀ {n : Nat} {s t u : State}, Runs n s t → Runs n s u → t = u
  | 0, _, _, _, h, g => h.symm.trans g
  | _ + 1, _, _, _, ⟨_, hr, h⟩, ⟨_, hq, g⟩ => by
    rw [hr] at hq
    cases hq
    exact runs_unique h g

/-! ## One step -/

/-- The engine's step in the middle of a command: the micro-operation at the head of `PC`, then the control lines. -/
theorem step_micro {s : State} {st : Stmt} {k : List Stmt} {u : Instr} (hb : s.flags.busy = true)
    (hp : s.port = none) (hpc : s.seq.pc = st :: k) (hu : Stmt.micro s st = some u) :
    step s = resume (exec u (setPc k s)) := by
  simp [step, fetch, hb, hp, hpc, hu]

/-- A step is one of these five. -/
theorem step_cases (s : State) :
    (s.flags.busy = false ∧ s.port = none ∧ s.script = [] ∧ step s = .next s) ∨
    (∃ r, fetch s = .refuse r ∧ step s = .refused r) ∨
    (∃ i t, fetch s = .command i t ∧ step s = exec i t) ∨
    (∃ u t, fetch s = .micro u t ∧ step s = resume (exec u t)) ∨
    (fetch s = .control ∧ step s = .next (settle s.seq.pc s)) := by
  have hw : fetch s = .wait → s.flags.busy = false ∧ s.port = none ∧ s.script = [] := by
    intro h
    unfold fetch present at h
    cases hb : s.flags.busy <;> cases hp : s.port <;> cases hs : s.script <;> simp_all <;>
      (repeat' split at h) <;> simp_all
  cases h : fetch s with
  | wait => exact .inl ⟨(hw h).1, (hw h).2.1, (hw h).2.2, by simp [step, h]⟩
  | refuse r => exact .inr (.inl ⟨r, rfl, by simp [step, h]⟩)
  | command i t => exact .inr (.inr (.inl ⟨i, t, rfl, by simp [step, h]⟩))
  | micro u t => exact .inr (.inr (.inr (.inl ⟨u, t, rfl, by simp [step, h]⟩)))
  | control => exact .inr (.inr (.inr (.inr ⟨rfl, by simp [step, h]⟩)))

/-- A micro-operation, being fetched, comes from the head of `PC` of a busy block with an empty port. -/
theorem fetch_micro {s t : State} {u : Instr} (h : fetch s = .micro u t) :
    ∃ st k, s.flags.busy = true ∧ s.port = none ∧ s.seq.pc = st :: k ∧ Stmt.micro s st = some u ∧ t = setPc k s := by
  unfold fetch present at h
  cases hb : s.flags.busy <;> cases hp : s.port <;> simp only [hb, hp] at h
  · cases hs : s.script <;> simp [hs] at h
    split at h <;> simp at h
  · simp at h
    split at h <;> simp at h
  · cases hpc : s.seq.pc with
    | nil => simp [hpc] at h
    | cons st k =>
      cases hm : Stmt.micro s st with
      | none => simp [hpc, hm] at h
      | some w =>
        simp [hpc, hm] at h
        exact ⟨st, k, rfl, rfl, rfl, by rw [hm, h.1], h.2.symm⟩
  · simp at h

/-- What follows a micro-operation that did not abort. -/
theorem resume_next {s : State} (h : s.flags.busy = true) : resume (.next s) = .next (settle s.seq.pc s) := by
  simp [resume, h]

/-- What follows a micro-operation that aborted: nothing. -/
theorem resume_abort (r : Raised) (s : State) : resume (.next (abort r s)) = .next (abort r s) := rfl

/-! ## The step of each micro-operation that succeeds -/

section

variable {s : State} {k : List Stmt} {e : Env} (hb : s.flags.busy = true) (hp : s.port = none)

/-- A micro-operation that answered a state with the rest of the position and `BUSY` still set. -/
theorem step_of_exec {st : Stmt} {u : Instr} {t : State} (hb : s.flags.busy = true) (hp : s.port = none)
    (hpc : s.seq.pc = st :: k) (hu : Stmt.micro s st = some u) (ht : exec u (setPc k s) = .next t)
    (hbt : t.flags.busy = true) (hpt : t.seq.pc = k) : step s = .next (settle k t) := by
  rw [step_micro hb hp hpc hu, ht, resume_next hbt, hpt]

include hb hp

theorem step_ws (hpc : s.seq.pc = .exec .ws :: k) :
    step s = .next (settle k (setDelays { s.delays with short := s.delays.short + 1 } (setPc k s))) :=
  step_of_exec hb hp hpc rfl rfl hb rfl

theorem step_wl (hpc : s.seq.pc = .exec .wl :: k) :
    step s = .next (settle k (setDelays { s.delays with long := s.delays.long + 1 } (setPc k s))) :=
  step_of_exec hb hp hpc rfl rfl hb rfl

theorem step_wp (hpc : s.seq.pc = .exec .wp :: k) :
    step s = .next (settle k (setDelays { s.delays with poll := s.delays.poll + 1 } (setPc k s))) :=
  step_of_exec hb hp hpc rfl rfl hb rfl

theorem step_crs (hpc : s.seq.pc = .exec .crs :: k) :
    step s = .next (settle k (setCrc Config.crcInit (setPc k s))) :=
  step_of_exec hb hp hpc rfl rfl hb rfl

theorem step_cup {st : Stmt} {v : Byte} (hpc : s.seq.pc = st :: k) (hu : Stmt.micro s st = some (.cup v)) :
    step s = .next (settle k (setCrc (crcUpdate s.regs.crc v) (setPc k s))) :=
  step_of_exec hb hp hpc hu rfl hb rfl

theorem step_cls (hpc : s.seq.pc = .exec .cls :: k) :
    step s = .next (settle k (setOpened false (setDat .closed (setClk .closed (setPc k s))))) :=
  step_of_exec hb hp hpc rfl rfl hb rfl

theorem step_cko (hpc : s.seq.pc = .exec .cko :: k) (ha : s.env.takeAnswer = (.ok, e)) :
    step s = .next (settle k (setClk .x (setEnv e (setPc k s)))) :=
  step_of_exec hb hp hpc rfl (lineAction_ok (by simpa using ha)) hb rfl

theorem step_ckl (hpc : s.seq.pc = .exec .ckl :: k) (hc : s.clk ≠ .closed) (ha : s.env.takeAnswer = (.ok, e)) :
    step s = .next (settle k (setClk .low (setEnv e (setPc k s)))) :=
  step_of_exec hb hp hpc rfl (by simpa [exec, execCkl, hc] using lineAction_ok (by simpa using ha)) hb rfl

theorem step_ckh (hpc : s.seq.pc = .exec .ckh :: k) (hc : s.clk ≠ .closed) (ha : s.env.takeAnswer = (.ok, e)) :
    step s = .next (settle k (setClk .high (setEnv e (setPc k s)))) :=
  step_of_exec hb hp hpc rfl (by simpa [exec, execCkh, hc] using lineAction_ok (by simpa using ha)) hb rfl

theorem step_dtl {st : Stmt} (hpc : s.seq.pc = st :: k) (hu : Stmt.micro s st = some .dtl) (hd : s.dat ≠ .closed)
    (ha : s.env.takeAnswer = (.ok, e)) : step s = .next (settle k (setDat .assertLow (setEnv e (setPc k s)))) :=
  step_of_exec hb hp hpc hu (lineAction_ok ((calls_dtl hd s.env).trans ha)) hb rfl

theorem step_dth {st : Stmt} (hpc : s.seq.pc = st :: k) (hu : Stmt.micro s st = some .dth) (hd : s.dat ≠ .closed) :
    step s = .next (settle k (setDat .released (setPc k s))) := by
  refine step_of_exec hb hp hpc hu (t := setDat .released (setPc k s)) ?_ hb rfl
  simp only [exec, execDth, setPc_dat, hd, if_false]
  rfl

theorem step_drd (hpc : s.seq.pc = .exec .drd :: k) (hd : s.dat ≠ .closed) (ha : s.env.takeAnswer = (.ok, e)) :
    step s = .next (settle k (sample (setEnv e (setPc k s)))) :=
  step_of_exec hb hp hpc rfl (by simpa [exec, execDrd, hd] using lineAction_ok (by simpa using ha)) hb rfl

end

end Sys2Proof.Machine
end

