-- ==== Sys2Proof/Tests/Slice0.lean ====
section
/-! SUPPORT. Tests: ill-formed terms the checks refuse, words written out from the spec's encodings, single steps with
results from the spec's rules and vectors (95_test_vectors.md), and witnesses for the hypotheses of the statements. -/

namespace Sys2Proof.Machine.Tests

/-! ## Helpers -/

/-- A field of the next state, if there is one. -/
def after {α : Type} (o : Host.Outcome State Fault Refusal) (f : State → α) : Option α :=
  match o with
  | .next s => some (f s)
  | _ => none

/-- The refusal, if there is one. -/
def refusal (o : Host.Outcome State Fault Refusal) : Option Refusal :=
  match o with
  | .refused r => some r
  | _ => none

/-- An idle block with its lines opened, as after a successful command: CLOCK LOW, DATA released, `CRC` as given; the
interface always succeeds and the samples ahead are `tape`. -/
def ready (crc : Byte) (tape : List Pull) : State :=
  { State.reset with
    clk := .low
    dat := .released
    regs := { State.reset.regs with crc := crc }
    flags := { State.reset.flags with opened := true }
    env := ⟨⟨tape, none⟩, ⟨[], some .ok⟩, 0⟩ }

/-- The same block in the middle of a command, at the position `k`. -/
def running (s : State) (k : List Stmt) : State :=
  { s with flags := { s.flags with busy := true }, seq := { s.seq with pc := k } }

/-- The same block with the interface failing at its next call. -/
def failing (s : State) : State := { s with env := { s.env with answers := ⟨[.fail ⟨7⟩], none⟩ } }

/-! ## Well-formedness refuses -/

theorem test_wf_command_not_micro : Instr.wellFormedAt .micro (.sendByte 0x1E) = false := by decide
theorem test_wf_micro_not_portable : Instr.portable .drd = false := by decide
theorem test_wf_exec_of_command : Stmt.wellFormed (.exec (.crcUpdate 0x05)) = false := by decide
theorem test_wf_pc_starts_with_control : pcWellFormed [.ackTest, .exec .ws] = false := by decide
theorem test_wf_pc_tail : pcWellFormed [.exec .ws, .exec .readAll] = false := by decide
theorem test_wf_pc_good : pcWellFormed [.exec .ws, .ackTest, .exec (.cup 0x09)] = true := by decide

/-! ## Decoding: words written out from 30_encoding.md R88 and R91 -/

theorem test_decode_lines :
    decodeWord 0b0000000100000000 = .ok .initLines ∧ decodeWord 0b0000001000000000 = .ok .shutdown ∧
    decodeWord 0b0000001100000000 = .ok .reset ∧ decodeWord 0b0000010000000000 = .ok .tstart := by decide

theorem test_decode_bytes :
    decodeWord 0b0000010100011110 = .ok (.sendByte 0x1E) ∧ decodeWord 0b0000010111111111 = .ok (.sendByte 0xFF) ∧
    decodeWord 0b0000011000000001 = .ok (.recvByte true) ∧ decodeWord 0b0000011000000000 = .ok (.recvByte false) := by
  decide

theorem test_decode_measurements :
    decodeWord 0b0000011100000000 = .ok (.startMeas .temperature) ∧
    decodeWord 0b0000011100000001 = .ok (.startMeas .humidity) ∧
    decodeWord 0b0000100000000000 = .ok .awaitRead ∧ decodeWord 0b0000100100000000 = .ok (.read .temperature) ∧
    decodeWord 0b0000100100000001 = .ok (.read .humidity) ∧ decodeWord 0b0000101000000000 = .ok .readAll := by decide

theorem test_decode_crc :
    decodeWord 0b0001000000000000 = .ok .crcReset ∧ decodeWord 0b0001000100000101 = .ok (.crcUpdate 0x05) ∧
    decodeWord 0b0001001000000000 = .ok .crcValue ∧ decodeWord 0b0001001100011010 = .ok (.crcVerify 0x1A) := by decide

/-- The reserved words of 95_test_vectors.md section 6. -/
theorem test_decode_reserved :
    [(0x0000 : Half), 0x0101, 0x0602, 0x0903, 0x0B00, 0x1400, 0xFFFF].all
      (fun w => decide (decodeWord w = .error (.reservedWord w))) = true := by decide

theorem test_decode_micro :
    [0b0000, 0b0001, 0b0010, 0b0011, 0b0100, 0b0101, 0b0110, 0b0111, 0b1000, 0b1001, 0b1010, 0b1011, 0b1100].map
        (decodeTableWord 4) =
      [some .ws, some .wl, some .wp, some .cko, some .ckl, some .ckh, some .dtl, some .dth, some .drd, some .cls,
        some .crs, some (.cup 0x00), none] := by decide

theorem test_decode_cup_operand :
    decodeMicro 0b1011 0xA5 = .ok (.cup 0xA5) ∧ decodeMicro 0b1010 0xA5 = .error (.strayOperand 0b1010 0xA5) := by decide

theorem test_encode_spec_words :
    encode (.startMeas .humidity) = .command 0x0701 ∧ encode (.crcVerify 0x1A) = .command 0x131A ∧
    encode .cls = .micro 0x9 0 := by decide

theorem test_text :
    Instr.text (.sendByte 0x1E) = "SEND_BYTE 0x1E" ∧ Instr.text (.recvByte true) = "RECV_BYTE ACK" ∧
    Instr.text (.read .humidity) = "READ H" ∧ Instr.text (.cup 0xA5) = "CUP(A5)" := by decide

/-! ## The accumulator: table entries of 95_test_vectors.md sections 2.2 and 2.3 -/

theorem test_crc_update : crcUpdate 0xF5 0x09 = 0xFF ∧ crcUpdate 0x00 0x1E = 0x5C ∧ crcUpdate 0x5C 0x00 = 0x03 := by
  decide

/-- `01 02` gives `0x96`, `02 01` gives `0xE8` (90_conflicts.md C6); `01` alone gives `0x31`, `02` alone `0x62`. -/
theorem test_crc_order : crcUpdate 0x31 0x02 = 0x96 ∧ crcUpdate 0x62 0x01 = 0xE8 := by decide

theorem test_mirror : mirror8 0x58 = 0x1A ∧ mirror8 0x0F = 0xF0 := by decide

/-! ## Accumulator commands (95_test_vectors.md section 8, program 1) -/

theorem test_crcReset : after (exec .crcReset (ready 0x77 [])) (fun s => (s.regs.crc, s.flags.busy)) =
    some (0x00, false) := by decide
theorem test_crcUpdate : after (exec (.crcUpdate 0x05) State.reset) (fun s => (s.regs.crc, crcValue s)) =
    some (0xF5, 0xAF) := by decide
theorem test_crcValue : after (exec .crcValue (ready 0x58 [])) (fun s => (s.regs.crc, crcValue s)) =
    some (0x58, 0x1A) := by decide
theorem test_crcVerify_equal : after (exec (.crcVerify 0x1A) (ready 0x58 [])) statusWord = some 0x22 := by decide
theorem test_crcVerify_unequal : after (exec (.crcVerify 0x1B) (ready 0x58 [])) statusWord = some 0x02 := by decide

/-! ## Acceptance and refusal of host commands -/

theorem test_initLines : after (exec .initLines (ready 0x58 [])) (fun s => (s.flags.busy, s.flags.opened, s.clk)) =
    some (true, false, .low) := by decide
theorem test_shutdown_at_power_on : after (exec .shutdown State.reset) (fun s => s.seq.pc) =
    some [.exec .cls] := by decide
theorem test_reset_refused_at_power_on : refusal (exec .reset State.reset) = some .linesNotOpened := by decide
theorem test_reset : after (exec .reset (ready 0x99 [])) (fun s => s.seq.pc.take 2) =
    some [.exec .dth, .exec .ws] := by decide
theorem test_tstart : after (exec .tstart (ready 0x77 [])) (fun s => s.seq.pc.length) = some 13 := by decide
theorem test_sendByte : after (exec (.sendByte 0xA5) (ready 0x00 [])) (fun s => (s.seq.pc.take 3, s.cnt.bitcnt)) =
    some ([.exec .ckl, .exec .ws, .execDataBit 0xA5], 7) := by decide
theorem test_recvByte : after (exec (.recvByte true) (ready 0x12 [])) (fun s => (s.seq.pc.take 3, s.regs.rxb)) =
    some ([.exec .ckh, .exec .ws, .exec .drd], 0x00) := by decide
theorem test_startMeas : after (exec (.startMeas .humidity) (ready 0x99 [])) (fun s => s.seq.pc.take 1) =
    some [.exec .ckh] := by decide
theorem test_awaitRead : after (exec .awaitRead (ready 0xF5 [])) (fun s => (s.seq.pc.take 3, s.cnt.attempt)) =
    some ([.exec .wp, .exec .drd, .pollNext], 0) := by decide
theorem test_read : after (exec (.read .humidity) (ready 0xEE [])) (fun s => s.seq.pc.getLast?) =
    some (some .callAwaitRead) := by decide
theorem test_readAll : after (exec .readAll (ready 0x00 [])) (fun s => s.seq.pc.drop 13 |>.drop 1) =
    some [.callAwaitRead, .saveTemperature, .callRead .humidity, .deliverPair] := by decide
theorem test_busy_refuses : refusal (exec .crcValue (running (ready 0x00 []) [.exec .ws])) = some .commandWhileBusy := by
  decide
theorem test_port_reserved : refusal (step (State.reset.withFetchWord 16 0x1400)) =
    some (.reservedCommandWord 0x1400) := by decide

/-! ## Micro-operations -/

theorem test_ws : after (exec .ws (ready 0x00 [])) (fun s => (s.clk, s.delays.short)) = some (.low, 1) := by decide
theorem test_wl : after (exec .wl State.reset) (fun s => (s.clk, s.delays.long)) = some (.closed, 1) := by decide
theorem test_wp : after (exec .wp (ready 0x00 [])) (fun s => (s.dat, s.delays.poll)) = some (.released, 1) := by decide
theorem test_cko : after (exec .cko (ready 0x00 [])) (fun s => s.clk) = some .x := by decide
theorem test_ckl : after (exec .ckl { ready 0x00 [] with clk := .high }) (fun s => s.clk) = some .low := by decide
theorem test_ckl_fails : after (exec .ckl (failing (running (ready 0x00 []) [.exec .dtl])))
    (fun s => (s.clk, s.err, s.errInfo.token, s.seq.pc)) = some (.x, .lineIo, 7, []) := by decide
theorem test_ckh : after (exec .ckh (ready 0x00 [])) (fun s => s.clk) = some .high := by decide
theorem test_ckh_closed : refusal (exec .ckh State.reset) = some (.lineClosed .clock) := by decide
theorem test_dtl : after (exec .dtl (ready 0x00 [])) (fun s => s.dat) = some .assertLow := by decide
/-- From `CLOSED` the `open` takes an answer before the `write` does (R118, log entry 20). -/
theorem test_dtl_closed : after (exec .dtl
      { State.reset with env := ⟨⟨[], none⟩, ⟨[.ok, .fail ⟨3⟩], none⟩, 0⟩ }) (fun s => (s.dat, s.errInfo.token)) =
    some (.x, 3) := by decide
theorem test_dth : after (exec .dth { ready 0x00 [] with dat := .assertLow }) (fun s => s.dat) = some .released := by
  decide
theorem test_drd_low : after (exec .drd (ready 0x00 [.pullLow])) (fun s => (s.seq.d, s.env.pulls.queue)) =
    some (false, []) := by decide
theorem test_drd_fails : after (exec .drd (failing (ready 0x42 [.float])))
    (fun s => (s.dat, s.err.code, s.env.pulls.queue)) = some (.released, 1, [.float]) := by decide
theorem test_cls : after (exec .cls (ready 0x58 [])) (fun s => (linesWord s, s.flags.opened, s.regs.crc)) =
    some (0x00, false, 0x58) := by decide
theorem test_crs : after (exec .crs (ready 0x77 [])) (fun s => s.regs.crc) = some 0x00 := by decide
theorem test_cup : after (exec (.cup 0x09) (ready 0xF5 [])) (fun s => s.regs.crc) = some 0xFF := by decide

/-! ## One step with the control lines after it -/

/-- The acknowledgment sample reads HIGH: `NotAcknowledged` at the sample (R164, R222). -/
theorem test_step_not_acknowledged :
    after (step (running (ready 0x42 [.float]) [.exec .drd, .ackTest, .exec (.cup 0xA5), .exec .ckl, .exec .ws]))
      (fun s => (s.err.code, s.flags.busy, s.regs.crc)) = some (2, false, 0x42) := by decide

/-- The first sample is bit 7 (95_test_vectors.md section 4.3). -/
theorem test_step_first_sample_is_bit_7 :
    after (step (running { ready 0x00 [.float] with cnt := ⟨7, 0, 0⟩ } [.exec .drd, .recvOr, .exec .ckl]))
      (fun s => s.regs.rxb) = some 0x80 := by decide

/-- The last data bit is bit 0: `SEND_BYTE 0x80` asserts DATA low in it. -/
theorem test_step_data_bit_0 :
    after (step (running (ready 0x00 []) [.execDataBit 0x80, .exec .ws])) (fun s => s.dat) = some .assertLow := by decide

/-- HIGH on the 62nd attempt is a timeout, LOW is in time (R168 b). -/
theorem test_step_timeout :
    after (step (running { ready 0x00 [.float] with cnt := ⟨0, 0, 61⟩ } [.exec .drd, .pollNext, .callRecvByte true]))
      (fun s => s.err.code) = some 3 := by decide
theorem test_step_62nd_in_time :
    after (step (running { ready 0x00 [.pullLow] with cnt := ⟨0, 0, 61⟩ } [.exec .drd, .pollNext, .callRecvByte true]))
      (fun s => (s.err.code, s.seq.pc.take 1)) = some (0, [.exec .ckh]) := by decide

/-- The checksum line, equal and different (95_test_vectors.md section 4.6). -/
theorem test_checksum_equal :
    (fun s => (s.regs.val, statusWord s)) (settle [.checksum]
      (running { ready 0x58 [] with regs := ⟨0x58, 0x1A, 0x09, 0x31, 0x1A, 0, 0, 0⟩ } [.checksum])) =
    (0x0931, 0x2A) := by decide
theorem test_checksum_different :
    (fun s => (s.regs.val, s.err.code, statusWord s)) (settle [.checksum]
      (running { ready 0x58 [] with regs := ⟨0x58, 0x1B, 0x09, 0x31, 0x1B, 0, 0, 0⟩ } [.checksum])) =
    (0x0000, 4, 0x02) := by decide

/-- The ninth clock pulse of RESET is the last (R166). -/
theorem test_ninth_pulse_is_last :
    (fun s => s.seq.pc) (settle [.pulseNext, .exec .ws]
      (running { ready 0x00 [] with cnt := ⟨0, 9, 0⟩ } [])) = [.exec .ws] := by decide

/-! ## Host reads and views -/

theorem test_lines_after_initialize : linesWord { ready 0x00 [] with dat := .assertLow } = 0x0A := by decide
theorem test_lines_after_reset : linesWord (ready 0x5C []) = 0x0E := by decide
theorem test_power_on_mid_command : (powerOn (running (ready 0x5C []) [.exec .ws])).seq.pc = [] := by decide

/-! ## Witnesses: states that meet the hypotheses of the statements

Each names the statements whose hypotheses it meets. -/

theorem ready_ready (crc : Byte) (tape : List Pull) : Ready (ready crc tape) :=
  ⟨⟨rfl, rfl⟩, rfl, nofun, nofun⟩

theorem lineOk_of {s : State} (h : s.env.answers = ⟨[], some Answer.ok⟩) : LineOk s := fun n => by
  rw [h]
  exact Feed.begins_rest Answer.ok n

theorem ready_lineOk (crc : Byte) (tape : List Pull) : LineOk (ready crc tape) := lineOk_of rfl

theorem ready_tape (crc : Byte) (tape : List Pull) : Tape tape (ready crc tape) := by
  have h := Feed.begins_queue tape [] none
  rwa [List.append_nil] at h

/-- EncodeOfDecode, for a command and for a micro-operation. -/
theorem witness_decodes : decode (.command 0x051E) = .ok (.sendByte 0x1E) ∧ decode (.micro 0xB 0x05) = .ok (.cup 0x05) := by
  decide

/-- ReservedWordsAreRefused, its step clause, and RefusedSituations, its last clause. -/
theorem witness_reserved_word_presented :
    ({ ready 0 [] with port := some 0x1400 } : State).flags.busy = false ∧
    ({ ready 0 [] with port := some 0x1400 } : State).port = some 0x1400 ∧
    decodeWord 0x1400 = .error (.reservedWord 0x1400) := by decide

/-- MirrorReversesBits, its first clause, at both ends of the range. -/
theorem witness_mirror_bits :
    (mirror8 0x58).getLsbD 0 = (0x58 : Byte).getLsbD 7 ∧ (mirror8 0x58).getLsbD 7 = (0x58 : Byte).getLsbD 0 := by decide

/-- AccumulatingFoldsTheBytes. -/
theorem witness_accumulating :
    Idle { State.reset with script := [0x1000, 0x1105, 0x1109] } ∧
    ({ State.reset with script := [0x1000, 0x1105, 0x1109] } : State).script =
      commandWord 0x10 0x00 :: [(0x05 : Byte), 0x09].map (fun v => commandWord 0x11 v) := by
  exact ⟨⟨rfl, rfl⟩, by decide⟩

/-- CrcCommandsComplete: an idle state, lines opened or not; ResetLeavesTheBlockIdle's two states are idle too. -/
theorem witness_idle : State.reset.flags.busy = false ∧ (ready 0x58 []).flags.busy = false := by decide

/-- ClockDriverTable: its success and failure clauses on an opened line, and the closed line. -/
theorem witness_clock :
    (ready 0 []).clk ≠ .closed ∧ (ready 0 []).env.takeAnswer = (.ok, ⟨⟨[], none⟩, ⟨[], some .ok⟩, 1⟩) ∧
    (failing (ready 0 [])).clk ≠ .closed ∧
    (failing (ready 0 [])).env.takeAnswer = (.fail ⟨7⟩, ⟨⟨[], none⟩, ⟨[], none⟩, 1⟩) ∧ State.reset.clk = .closed := by
  decide

/-- DataDriverTable: the opened line, and the closed line with two answers. -/
theorem witness_data :
    (ready 0 []).dat ≠ .closed ∧ (ready 0 []).env.takeAnswer = (.ok, ⟨⟨[], none⟩, ⟨[], some .ok⟩, 1⟩) ∧
    (failing (ready 0 [])).env.takeAnswer = (.fail ⟨7⟩, ⟨⟨[], none⟩, ⟨[], none⟩, 1⟩) ∧
    ({ failing State.reset with dat := .closed } : State).dat = .closed ∧
    Env.takeAnswer ⟨⟨[], none⟩, ⟨[.ok, .fail ⟨3⟩], none⟩, 0⟩ = (.ok, ⟨⟨[], none⟩, ⟨[.fail ⟨3⟩], none⟩, 1⟩) ∧
    Env.takeAnswer ⟨⟨[], none⟩, ⟨[.fail ⟨3⟩], none⟩, 1⟩ = (.fail ⟨3⟩, ⟨⟨[], none⟩, ⟨[], none⟩, 2⟩) ∧
    Env.takeAnswer ⟨⟨[], none⟩, ⟨[], some .ok⟩, 1⟩ = (.ok, ⟨⟨[], none⟩, ⟨[], some .ok⟩, 2⟩) := by decide

/-- SampleReadsTheLine: released and unreleased DATA, success and failure. -/
theorem witness_sample :
    (ready 0 [.pullLow]).dat = .released ∧
    (ready 0 [.pullLow]).env.takeAnswer = (.ok, ⟨⟨[.pullLow], none⟩, ⟨[], some .ok⟩, 1⟩) ∧
    Env.takePull ⟨⟨[.pullLow], none⟩, ⟨[], some .ok⟩, 1⟩ = (.pullLow, ⟨⟨[], none⟩, ⟨[], some .ok⟩, 2⟩) ∧
    ({ ready 0 [.pullLow] with dat := .x } : State).dat ≠ .released ∧
    (failing (ready 0 [])).env.takeAnswer = (.fail ⟨7⟩, ⟨⟨[], none⟩, ⟨[], none⟩, 1⟩) := by decide

/-- MicroOpFrame. -/
theorem witness_micro : Instr.layer .ckh = .micro ∧ (after (exec .ckh (ready 0 [])) (fun _ => ())).isSome = true := by
  decide

/-- FailedLineOperationEndsTheCommand. -/
theorem witness_failed_line_operation :
    fetch (failing (running (ready 0 []) [.exec .ckh, .exec .ws])) =
      .micro .ckh (failing (running (ready 0 []) [.exec .ws])) ∧
    Env.calls (lineCalls .released .ckh) (failing (ready 0 [])).env = (.fail ⟨7⟩, ⟨⟨[], none⟩, ⟨[], none⟩, 1⟩) ∧
    (failing (ready 0 [])).clk ≠ .closed ∧ (failing (ready 0 [])).dat ≠ .closed := by decide

/-- ErrorEndsTheCommand, AccumulatorHasFourWriters, LinesMoveOnlyByTheirMicroOps, and SamplesAreDisciplined's second
clause: a step that answers a next state. -/
theorem witness_step : (after (step (running (ready 0 []) [.exec .ckh, .exec .ws])) (fun _ => ())).isSome = true ∧
    (running (ready 0 []) [.exec .ckh, .exec .ws]).flags.busy = true := by decide

/-- StepRunsTheDecodedInstruction: the port, the script, the position, and nothing to do. -/
theorem witness_step_runs :
    (ready 0 []).flags.busy = false ∧ ({ ready 0 [] with port := some 0x1200 } : State).port = some 0x1200 ∧
    (ready 0 []).port = none ∧ ({ ready 0 [] with script := [0x1200] } : State).script = [0x1200] ∧
    decodeWord 0x1200 = .ok .crcValue ∧
    (running (ready 0 []) [.execDataBit 0x80, .exec .ws]).flags.busy = true ∧
    Stmt.micro (running (ready 0 []) [.execDataBit 0x80, .exec .ws]) (.execDataBit 0x80) = some .dtl ∧
    (ready 0 []).script = [] := by decide

/-- RefusedSituations: busy, and idle with the lines not opened. -/
theorem witness_refused :
    ({ running (ready 0 []) [.exec .ws] with port := some 0x0100 } : State).flags.busy = true ∧
    ({ running (ready 0 []) [.exec .ws] with port := some 0x0100 } : State).port = some 0x0100 ∧
    Instr.layer .initLines = .command ∧ State.reset.flags.busy = false ∧ State.reset.flags.opened = false := by decide

/-- AcceptanceStartsTheSequence. -/
theorem witness_acceptance : (ready 0 []).flags.busy = false ∧ (ready 0 []).flags.opened = true := by decide

/-- InitializeCompletes, ShutdownCompletes: from closed and from opened lines. -/
theorem witness_initialize :
    Idle { State.reset with env := ⟨⟨[], none⟩, ⟨[], some .ok⟩, 0⟩ } ∧
    LineOk { State.reset with env := ⟨⟨[], none⟩, ⟨[], some .ok⟩, 0⟩ } ∧ Idle (ready 0 []) ∧ LineOk (ready 0 []) :=
  ⟨⟨rfl, rfl⟩, lineOk_of rfl, ⟨rfl, rfl⟩, ready_lineOk 0 []⟩

/-- InitializeStopsAtTheFirstFailure: its four clauses, the last from closed lines. -/
theorem witness_initialize_fails (p : Payload) :
    Idle (ready 0 []) ∧ Feed.Begins [Answer.fail p] ⟨[.fail p], none⟩ ∧
    Feed.Begins [Answer.ok, .fail p] ⟨[.ok, .fail p], none⟩ ∧
    Feed.Begins [Answer.ok, .ok, .fail p] ⟨[.ok, .ok, .fail p], none⟩ ∧
    Idle State.reset ∧ State.reset.dat = .closed ∧
    Feed.Begins [Answer.ok, .ok, .ok, .fail p] ⟨[.ok, .ok, .ok, .fail p], none⟩ :=
  ⟨⟨rfl, rfl⟩, Feed.begins_queue _ [] none, Feed.begins_queue _ [] none, Feed.begins_queue _ [] none, ⟨rfl, rfl⟩, rfl,
    Feed.begins_queue _ [] none⟩

/-- TstartCompletes; TstartMakesTheStartCondition with DATA released and with DATA asserted LOW. -/
theorem witness_tstart :
    Ready (ready 0x77 []) ∧ LineOk (ready 0x77 []) ∧ (ready 0x77 []).dat = .released ∧
    Ready { ready 0x77 [] with dat := .assertLow } ∧ LineOk { ready 0x77 [] with dat := .assertLow } :=
  ⟨ready_ready _ _, ready_lineOk _ _, rfl, ⟨⟨rfl, rfl⟩, rfl, nofun, nofun⟩, lineOk_of rfl⟩

/-- FailedTstartKeepsTheAccumulator: the first micro-operation fails. -/
theorem witness_tstart_fails :
    Ready (failing (ready 0x42 [])) ∧ (failing (ready 0x42 [])).script = [] ∧
    ∃ t u, exec .tstart (failing (ready 0x42 [])) = .next t ∧ Runs 1 t u ∧ u.err ≠ .none :=
  ⟨⟨⟨rfl, rfl⟩, rfl, nofun, nofun⟩, rfl, _, _, rfl, ⟨_, rfl, rfl⟩, nofun⟩

/-- SendByteCompletes, ResetCompletes, StartMeasCompletes, StartMeasIsItsExpansion: acknowledged. -/
theorem witness_acknowledged :
    Ready (ready 0 [.pullLow]) ∧ LineOk (ready 0 [.pullLow]) ∧ Tape [.pullLow] (ready 0 [.pullLow]) :=
  ⟨ready_ready _ _, ready_lineOk _ _, ready_tape 0 [.pullLow]⟩

/-- SendByteNotAcknowledged, both clauses, ResetNotAcknowledged, ReadAllStopsAtTemperature's second clause. -/
theorem witness_not_acknowledged :
    Ready (ready 0 [.float]) ∧ LineOk (ready 0 [.float]) ∧ Tape [.float] (ready 0 [.float]) :=
  ⟨ready_ready _ _, ready_lineOk _ _, ready_tape 0 [.float]⟩

/-- SendByteDrivesBitsMsbFirst, at both ends of `j`. -/
theorem witness_send_bits :
    Ready (ready 0 []) ∧ LineOk (ready 0 []) ∧ (∃ t, exec (.sendByte 0xA5) (ready 0 []) = .next t) ∧ 0 ≤ 7 ∧ 7 ≤ 7 :=
  ⟨ready_ready _ _, ready_lineOk _ _, ⟨_, rfl⟩, by decide, by decide⟩

/-- RecvByteCompletes, RecvByteAcknowledges. -/
theorem witness_receive :
    Ready (ready 0x12 (bitsOf 0xC3)) ∧ LineOk (ready 0x12 (bitsOf 0xC3)) ∧ (ready 0x12 (bitsOf 0xC3)).dat = .released ∧
    Tape (bitsOf 0xC3 ++ []) (ready 0x12 (bitsOf 0xC3)) ∧
    (∃ t, exec (.recvByte true) (ready 0x12 (bitsOf 0xC3)) = .next t) :=
  ⟨ready_ready _ _, ready_lineOk _ _, rfl, by rw [List.append_nil]; exact ready_tape _ _, ⟨_, rfl⟩⟩

/-- RecvByteCompletesUnreleased. -/
theorem witness_receive_unreleased :
    Ready { ready 0 [] with dat := .assertLow } ∧ LineOk { ready 0 [] with dat := .assertLow } ∧
    ({ ready 0 [] with dat := .assertLow } : State).dat ≠ .released :=
  ⟨⟨⟨rfl, rfl⟩, rfl, nofun, nofun⟩, lineOk_of rfl, nofun⟩

/-- AwaitReadCompletes: ready on the first attempt, and on the 62nd (95_test_vectors.md section 4.6). -/
theorem witness_await :
    ∀ k ∈ [1, 62], Ready (ready 0xF5 (readoutTape k 0x09 0x31 0x1A)) ∧
      LineOk (ready 0xF5 (readoutTape k 0x09 0x31 0x1A)) ∧ (ready 0xF5 (readoutTape k 0x09 0x31 0x1A)).dat = .released ∧
      1 ≤ k ∧ k ≤ 62 ∧ 0x1A = mirror8 (crcUpdate (crcUpdate 0xF5 0x09) 0x31) ∧
      Tape (readoutTape k 0x09 0x31 0x1A ++ []) (ready 0xF5 (readoutTape k 0x09 0x31 0x1A)) := by
  intro k hk
  have hk' : 1 ≤ k ∧ k ≤ 62 := by simp at hk; omega
  exact ⟨ready_ready _ _, ready_lineOk _ _, rfl, hk'.1, hk'.2, by decide +kernel, by
    rw [List.append_nil]; exact ready_tape _ _⟩

/-- AwaitReadMismatch, its first clause: a checksum wrong in bit 0 and one wrong in bit 7. -/
theorem witness_await_mismatch :
    ∀ chk ∈ [(0x1B : Byte), 0x9A], Ready (ready 0xF5 (readoutTape 1 0x09 0x31 chk)) ∧
      LineOk (ready 0xF5 (readoutTape 1 0x09 0x31 chk)) ∧ chk ≠ mirror8 (crcUpdate (crcUpdate 0xF5 0x09) 0x31) ∧
      Tape (readoutTape 1 0x09 0x31 chk) (ready 0xF5 (readoutTape 1 0x09 0x31 chk)) := by
  intro chk hc
  exact ⟨ready_ready _ _, ready_lineOk _ _, by revert chk; decide +kernel, ready_tape _ _⟩

/-- AwaitReadTimesOut, its first clause. -/
theorem witness_timeout :
    Ready (ready 0xF5 (List.replicate 62 .float)) ∧ LineOk (ready 0xF5 (List.replicate 62 .float)) ∧
    (ready 0xF5 (List.replicate 62 .float)).dat = .released ∧
    Tape (List.replicate 62 .float ++ []) (ready 0xF5 (List.replicate 62 .float)) :=
  ⟨ready_ready _ _, ready_lineOk _ _, rfl, by
    rw [List.append_nil]; exact ready_tape _ _⟩

/-- ReadCompletes, ReadIsItsExpansion: the checksum is the one the rule asks for, whatever the command byte. -/
theorem witness_read (q : Quantity) :
    ∃ chk : Byte, chk = mirror8 (crcFold 0x00 [mtByte q, 0x09, 0x31]) ∧
      Ready (ready 0xEE (.pullLow :: readoutTape 3 0x09 0x31 chk)) ∧
      LineOk (ready 0xEE (.pullLow :: readoutTape 3 0x09 0x31 chk)) ∧
      Tape (.pullLow :: readoutTape 3 0x09 0x31 chk ++ []) (ready 0xEE (.pullLow :: readoutTape 3 0x09 0x31 chk)) :=
  ⟨_, rfl, ready_ready _ _, ready_lineOk _ _, by
    rw [List.append_nil]; exact ready_tape _ _⟩

/-- ReadAllCompletes. -/
theorem witness_readAll :
    ∃ chkT chkH : Byte, chkT = mirror8 (crcFold 0x00 [mtByte .temperature, 0x17, 0x70]) ∧
      chkH = mirror8 (crcFold 0x00 [mtByte .humidity, 0x09, 0x31]) ∧
      ∃ tape, tape = .pullLow :: readoutTape 1 0x17 0x70 chkT ++ .pullLow :: readoutTape 1 0x09 0x31 chkH ++ [] ∧
        Ready (ready 0 tape) ∧ LineOk (ready 0 tape) ∧ Tape tape (ready 0 tape) :=
  ⟨_, _, rfl, rfl, _, rfl, ready_ready _ _, ready_lineOk _ _, ready_tape _ _⟩

/-- AwaitReadMismatch, its second clause, and ReadAllStopsAtTemperature, its first: a wrong checksum. -/
theorem witness_read_mismatch (q : Quantity) :
    ∃ chk : Byte, chk ≠ mirror8 (crcFold 0x00 [mtByte q, 0x17, 0x70]) ∧
      Ready (ready 0 (.pullLow :: readoutTape 1 0x17 0x70 chk)) ∧
      LineOk (ready 0 (.pullLow :: readoutTape 1 0x17 0x70 chk)) ∧
      Tape (.pullLow :: readoutTape 1 0x17 0x70 chk) (ready 0 (.pullLow :: readoutTape 1 0x17 0x70 chk)) :=
  ⟨~~~ mirror8 (crcFold 0x00 [mtByte q, 0x17, 0x70]), by
    generalize mirror8 (crcFold 0x00 [mtByte q, 0x17, 0x70]) = m; revert m; decide,
    ready_ready _ _, ready_lineOk _ _, ready_tape _ _⟩

/-- AwaitReadTimesOut, its second clause, and ReadAllStopsAtTemperature, its third: acknowledged, then never ready. -/
theorem witness_read_timeout :
    Ready (ready 0xEE (.pullLow :: List.replicate 62 .float)) ∧
    LineOk (ready 0xEE (.pullLow :: List.replicate 62 .float)) ∧
    Tape (.pullLow :: List.replicate 62 .float ++ []) (ready 0xEE (.pullLow :: List.replicate 62 .float)) :=
  ⟨ready_ready _ _, ready_lineOk _ _, by rw [List.append_nil]; exact ready_tape _ _⟩

/-- NoOperationReadsAResultFlag: two states that differ in a result flag only. -/
theorem witness_result_flags :
    eraseResultFlags (ready 0 []) = eraseResultFlags (setValValid true (ready 0 [])) ∧
    ready 0 [] ≠ setValValid true (ready 0 []) := by decide

/-- InvariantKeptByEveryStep, AcceptedCommandIsNeverRefused: a state in the middle of a transmission start. -/
theorem witness_inv :
    Inv (running (ready 0 []) [.exec .ckh, .exec .ws]) ∧ (running (ready 0 []) [.exec .ckh, .exec .ws]).flags.busy = true ∧
    (running (ready 0 []) [.exec .ckh, .exec .ws]).port = none :=
  ⟨⟨by decide, by decide, by decide, by decide, by decide, by decide⟩, rfl, rfl⟩

/-- EveryCommandEnds: an idle block that accepts READ_ALL. -/
theorem witness_every_command_ends :
    Inv (ready 0 []) ∧ (ready 0 []).port = none ∧ Instr.layer .readAll = .command ∧
    ∃ t, exec .readAll (ready 0 []) = .next t :=
  ⟨⟨by decide, by decide, by decide, by decide, by decide, by decide⟩, rfl, rfl, _, rfl⟩

/-- SamplesAreDisciplined: its first clause for the two commands with a premise, and its third. -/
theorem witness_disciplined :
    (ready 0 []).dat = .released ∧ (ready 0 []).clk = .low ∧
    (∃ t, exec .awaitRead (ready 0 []) = .next t) ∧ (∃ t, exec (.recvByte false) (ready 0 []) = .next t) ∧
    Disciplined (running (ready 0 []) [.exec .drd, .pollNext]) ∧
    fetch (running (ready 0 []) [.exec .drd, .pollNext]) = .micro .drd (running (ready 0 []) [.pollNext]) :=
  ⟨rfl, rfl, ⟨_, rfl⟩, ⟨_, rfl⟩, by unfold Disciplined; decide, by decide⟩

/-- HostReadsTheRegisterTable, its last clause at the boundary. -/
theorem witness_reserved_register : 10 ≤ 10 ∧ readReg 10 State.reset = .refused (.reservedRegister 10) := ⟨by decide, rfl⟩

end Sys2Proof.Machine.Tests
end

section
/-! What one step can do, said once: the effect of each instruction as a function of the state, and the five forms a
step takes. Every whole-machine statement below is a case analysis on `StepTo`. -/

namespace Sys2Proof.Machine

/-! ## Commands -/

/-- The effect of an accepted command, up to its first micro-operation. -/
def beginCommand : Instr → State → State
  | .initLines => beginInitLines []
  | .shutdown => beginShutdown []
  | .reset => beginReset []
  | .tstart => beginTstart []
  | .sendByte v => beginSendByte v []
  | .recvByte ack => beginRecvByte ack []
  | .startMeas q => beginStartMeas q []
  | .awaitRead => beginAwaitRead []
  | .read q => beginRead q []
  | .readAll => beginReadAll []
  | .crcReset => fun s => complete (setCrc Config.crcInit s)
  | .crcUpdate v => fun s => complete (setCrc (crcUpdate s.regs.crc v) s)
  | .crcValue => complete
  | .crcVerify v => fun s => complete (setCrcOk (checksumMatches v s) s)
  | _ => id

/-- The bus commands that R238 (b) refuses while `OPENED` = 0. -/
def Instr.needsLines : Instr → Bool
  | .reset | .tstart | .sendByte _ | .recvByte _ | .startMeas _ | .awaitRead | .read _ | .readAll => true
  | _ => false

/-- A command that needs the lines starts by `startBusCommand`, any other by `startCommand`. -/
theorem exec_command {i : Instr} (hi : i.layer = .command) (s : State) :
    exec i s = if Instr.needsLines i then startBusCommand (beginCommand i) s else startCommand (beginCommand i) s := by
  cases i with
  | ws | wl | wp | cko | ckl | ckh | dtl | dth | drd | cls | crs | cup => cases hi
  | _ => rfl

/-- A command that answers a next state was accepted by an idle block, with its lines opened if it needs them. -/
theorem exec_command_next {i : Instr} (hi : i.layer = .command) {s t : State} (h : exec i s = .next t) :
    s.flags.busy = false ∧ (Instr.needsLines i = true → s.flags.opened = true) ∧ t = beginCommand i (accept s) := by
  rw [exec_command hi] at h
  cases hn : Instr.needsLines i
  · rcases startCommand_cases (beginCommand i) s with ⟨-, hs⟩ | ⟨hb, hs⟩ <;> simp [hn, hs] at h
    exact ⟨hb, nofun, h.symm⟩
  · rcases startBusCommand_cases (beginCommand i) s with ⟨-, hs⟩ | ⟨-, -, hs⟩ | ⟨hb, ho, hs⟩ <;> simp [hn, hs] at h
    exact ⟨hb, fun _ => ho, h.symm⟩

/-- Every row of R88's table builds a command. -/
theorem decodeWord_layer {w : Half} {i : Instr} (h : decodeWord w = .ok i) : i.layer = .command := by
  have hrows : ∀ r ∈ commandRows, ∀ arg, (r.build arg).layer = .command := by simp [commandRows, Instr.layer]
  unfold decodeWord at h
  split at h
  next r hr => cases h; exact hrows r (List.mem_of_find?_eq_some hr) _
  next => cases h

/-- A presented word that is fetched as a command decodes to it. -/
theorem present_command {w : Half} {i : Instr} {s t : State} (h : present w s = .command i t) :
    decodeWord w = .ok i ∧ t = s := by
  unfold present at h
  split at h
  next j hj => cases h; exact ⟨hj, rfl⟩
  next => cases h

theorem present_ne_control (w : Half) (s : State) : present w s ≠ .control := by
  unfold present
  split <;> nofun

/-- A command is fetched by an idle block; only the host's words are used up. -/
theorem fetch_command {s t : State} {i : Instr} (h : fetch s = .command i t) :
    s.flags.busy = false ∧ i.layer = .command ∧ ∃ p ws, t = { s with port := p, script := ws } := by
  unfold fetch at h
  split at h
  · split at h
    · cases h
    · cases h
    · split at h <;> cases h
  next hb =>
    split at h
    next w _ =>
      obtain ⟨hw, rfl⟩ := present_command h
      exact ⟨by simpa using hb, decodeWord_layer hw, none, s.script, rfl⟩
    next w ws hp _ =>
      obtain ⟨hw, rfl⟩ := present_command h
      exact ⟨by simpa using hb, decodeWord_layer hw, s.port, ws, rfl⟩
    next => cases h

/-! ## Micro-operations -/

/-- The effect of a micro-operation whose interface calls succeed, the environment's answers already taken. -/
def microDone : Instr → State → State
  | .ws, s => setDelays { s.delays with short := s.delays.short + 1 } s
  | .wl, s => setDelays { s.delays with long := s.delays.long + 1 } s
  | .wp, s => setDelays { s.delays with poll := s.delays.poll + 1 } s
  | .cko, s => setClk .x s
  | .ckl, s => setClk .low s
  | .ckh, s => setClk .high s
  | .dtl, s => setDat .assertLow s
  | .dth, s => setDat .released s
  | .drd, s => sample s
  | .cls, s => setOpened false (setDat .closed (setClk .closed s))
  | .crs, s => setCrc Config.crcInit s
  | .cup v, s => setCrc (crcUpdate s.regs.crc v) s
  | _, s => s

/-- What a micro-operation does to its line when one of its interface calls fails (R221, R226). -/
def microFailed : Instr → State → State
  | .cko, s | .ckl, s | .ckh, s => setClk .x s
  | .dtl, s => setDat .x s
  | _, s => s

/-- A micro-operation that answers a next state succeeded, or failed and aborted. -/
theorem exec_micro_next {u : Instr} (hu : u.layer = .micro) {s t : State} (h : exec u s = .next t) :
    (∃ e, t = microDone u (setEnv e s)) ∨ ∃ p e, t = abort (.lineIo p) (microFailed u (setEnv e s)) := by
  have line {cs onOk onFail} (h : lineAction cs onOk onFail s = .next t) :
      (∃ e, t = onOk (setEnv e s)) ∨ ∃ p e, t = abort (.lineIo p) (onFail (setEnv e s)) := by
    rcases lineAction_next h with ⟨e, -, ht⟩ | ⟨p, e, -, ht⟩
    · exact .inl ⟨e, ht⟩
    · exact .inr ⟨p, e, ht⟩
  have guarded {c : Prop} [Decidable c] {r cs onOk onFail}
      (h : (if c then .refused r else lineAction cs onOk onFail s) = .next t) :
      (∃ e, t = onOk (setEnv e s)) ∨ ∃ p e, t = abort (.lineIo p) (onFail (setEnv e s)) := by
    split at h
    · cases h
    · exact line h
  cases u
  case cko | dtl => exact line h
  case ckl | ckh | dth | drd => exact guarded h
  case ws | wl | wp | cls | crs | cup => exact .inl ⟨s.env, (Host.Outcome.next.inj h).symm⟩
  all_goals cases hu

section

variable (u : Instr) (s : State)

@[simp] theorem microDone_cnt : (microDone u s).cnt = s.cnt := by cases u <;> rfl
@[simp] theorem microDone_err : (microDone u s).err = s.err := by cases u <;> rfl
@[simp] theorem microDone_errInfo : (microDone u s).errInfo = s.errInfo := by cases u <;> rfl
@[simp] theorem microDone_pc : (microDone u s).seq.pc = s.seq.pc := by cases u <;> rfl
@[simp] theorem microDone_busy : (microDone u s).flags.busy = s.flags.busy := by cases u <;> rfl

@[simp] theorem microFailed_regs : (microFailed u s).regs = s.regs := by cases u <;> rfl
@[simp] theorem microFailed_cnt : (microFailed u s).cnt = s.cnt := by cases u <;> rfl
@[simp] theorem microFailed_flags : (microFailed u s).flags = s.flags := by cases u <;> rfl

end

/-! ## Steps -/

/-- A step with no micro-operation to run at the head of `PC` is one of a busy block. -/
theorem fetch_control {s : State} (h : fetch s = .control) :
    s.flags.busy = true ∧ ∀ st k, s.seq.pc = st :: k → Stmt.micro s st = none := by
  unfold fetch at h
  split at h
  next hb =>
    refine ⟨hb, fun st k hpc => ?_⟩
    split at h
    next => cases h
    next hnil => simp [hpc] at hnil
    next st' k' _ hcons =>
      obtain ⟨rfl, rfl⟩ : st' = st ∧ k' = k := by simpa [hpc, eq_comm] using hcons
      split at h
      next => cases h
      next hm => exact hm
  next =>
    split at h
    next w _ => exact absurd h (present_ne_control w _)
    next w _ _ _ => exact absurd h (present_ne_control w _)
    next => cases h

/-- The forms of a step from `s` to `t`. -/
inductive StepTo (s t : State) : Prop where
  /-- An idle block with nothing presented waits. -/
  | wait (same : t = s)
  /-- A command is accepted. -/
  | accepted (i : Instr) (p : Option Half) (ws : List Half) (idle : s.flags.busy = false)
      (fetched : fetch s = .command i { s with port := p, script := ws })
      (lines : Instr.needsLines i = true → s.flags.opened = true)
      (after : t = beginCommand i (accept { s with port := p, script := ws }))
  /-- The micro-operation at the head of `PC` succeeds, and the control lines after it run. -/
  | done (st : Stmt) (k : List Stmt) (u : Instr) (e : Env) (busy : s.flags.busy = true) (pc : s.seq.pc = st :: k)
      (micro : Stmt.micro s st = some u) (fetched : fetch s = .micro u (setPc k s))
      (after : t = settle k (microDone u (setEnv e (setPc k s))))
  /-- The micro-operation at the head of `PC` fails and the command is aborted. -/
  | failed (k : List Stmt) (u : Instr) (p : Payload) (e : Env) (busy : s.flags.busy = true)
      (after : t = abort (.lineIo p) (microFailed u (setEnv e (setPc k s))))
  /-- A busy block without a micro-operation at the head of `PC` runs its control lines. -/
  | control (busy : s.flags.busy = true) (noMicro : ∀ st k, s.seq.pc = st :: k → Stmt.micro s st = none)
      (after : t = settle s.seq.pc s)

/-- Every step that answers a next state has one of the forms. -/
theorem stepTo_of_step {s t : State} (h : step s = .next t) : StepTo s t := by
  rcases step_cases s with ⟨-, -, -, hs⟩ | ⟨_, -, hs⟩ | ⟨i, r, hf, hs⟩ | ⟨u, r, hf, hs⟩ | ⟨hf, hs⟩ <;> rw [hs] at h
  · exact .wait (Host.Outcome.next.inj h).symm
  · cases h
  · obtain ⟨hb, hi, p, ws, rfl⟩ := fetch_command hf
    obtain ⟨-, ho, ht⟩ := exec_command_next hi h
    exact .accepted i p ws hb hf ho ht
  · obtain ⟨st, k, hb, -, hpc, hm, rfl⟩ := fetch_micro hf
    cases hx : exec u (setPc k s) with
    | fault | refused => rw [hx] at h; cases h
    | next r =>
      rw [hx] at h
      have hu : u.layer = .micro := by
        cases hl : u.layer with
        | micro => rfl
        | command => simpa [hb] using (exec_command_next hl hx).1
      rcases exec_micro_next hu hx with ⟨e, rfl⟩ | ⟨p, e, rfl⟩
      · rw [resume_next (by simpa using hb)] at h
        exact .done st k u e hb hpc hm hf (by simpa using (Host.Outcome.next.inj h).symm)
      · rw [resume_abort] at h
        exact .failed k u p e hb (Host.Outcome.next.inj h).symm
  · obtain ⟨hb, hm⟩ := fetch_control hf
    exact .control hb hm (Host.Outcome.next.inj h).symm

end Sys2Proof.Machine
end


section
/-! The invariant is kept by every step. A transaction's state is `Running` and the rest of its position is `Plain`:
lines of a transaction with no poll attempt under way. Every `begin` operation and every control line keeps this. -/

namespace Sys2Proof.Machine

/-! ## What holds of a state between two lines of a transaction -/

/-- The part of the invariant that speaks of the drivers and the counters alone. -/
structure Bounded (s : State) : Prop where
  lines : s.flags.opened = true → s.clk ≠ .closed ∧ s.dat ≠ .closed
  bitcnt : s.cnt.bitcnt ≤ 7
  clkcnt : s.cnt.clkcnt ≤ 9
  attempt : s.cnt.attempt ≤ Config.nPoll

/-- A transaction is under way. -/
structure Running (s : State) : Prop extends Bounded s where
  busy : s.flags.busy = true
  err : s.err = .none
  opened : s.flags.opened = true

/-- A line of a transaction that does not end a poll attempt. -/
def Stmt.isPlain (st : Stmt) : Bool := Stmt.inTransaction st && decide (st ≠ .pollNext)

/-- Lines of a transaction, with no end of a poll attempt among them. -/
def Plain (k : List Stmt) : Prop := ∀ st ∈ k, Stmt.isPlain st = true

/-- The invariant without a position: the block is idle. -/
theorem inv_idle {s : State} (h : Bounded s) (hb : s.flags.busy = false) (hpc : s.seq.pc = []) : Inv s where
  busy_iff := by simp [hb, hpc]
  err_running := by simp [hb]
  opened_lines := h.lines
  counters := ⟨h.bitcnt, h.clkcnt, h.attempt⟩
  position := by simp [hpc, pcWellFormed]
  legal := by simp [hpc, positionLegal]

theorem Inv.bounded {s : State} (h : Inv s) : Bounded s := by
  obtain ⟨hbit, hclk, hatt⟩ := h.counters
  exact ⟨h.opened_lines, hbit, hclk, hatt⟩

theorem inv_complete {s : State} (h : Bounded s) : Inv (complete s) := inv_idle { h with } rfl rfl

theorem inv_abort {s : State} (h : Bounded s) (r : Raised) : Inv (abort r s) := inv_idle { h with } rfl rfl

/-- The invariant at a position: the block is busy. -/
theorem inv_busy {s : State} (h : Bounded s) (hb : s.flags.busy = true) (he : s.err = .none)
    (hpc : s.seq.pc ≠ []) (hw : pcWellFormed s.seq.pc = true) (hl : positionLegal s = true) : Inv s where
  busy_iff := by simp [hb, hpc]
  err_running := fun _ => he
  opened_lines := h.lines
  counters := ⟨h.bitcnt, h.clkcnt, h.attempt⟩
  position := hw
  legal := hl

/-! ## Positions of a transaction -/

theorem wellFormed_of_inTransaction {st : Stmt} (h : Stmt.inTransaction st = true) : st.wellFormed = true := by
  cases st with
  | exec u =>
    cases u with
    | ws | wl | wp | cko | ckl | ckh | dtl | dth | drd | cls | crs | cup => rfl
    | _ => cases h
  | _ => rfl

/-- A position of a transaction is a legal position. -/
theorem positionLegal_of_transaction {s : State} (ho : s.flags.opened = true)
    (hk : s.seq.pc.all Stmt.inTransaction = true) (hp : pollLegal s.cnt.attempt s.seq.pc = true) :
    positionLegal s = true := by
  unfold positionLegal
  split <;> simp_all [Stmt.inTransaction]

theorem Running.inv {s : State} {st : Stmt} {k : List Stmt} (h : Running s) (hpc : s.seq.pc = st :: k)
    (hm : st.isMicro = true) (hk : s.seq.pc.all Stmt.inTransaction = true)
    (hp : pollLegal s.cnt.attempt s.seq.pc = true) : Inv s := by
  refine inv_busy h.toBounded h.busy h.err (by simp [hpc]) ?_ (positionLegal_of_transaction h.opened hk hp)
  rw [hpc, List.all_cons, Bool.and_eq_true, List.all_eq_true] at hk
  simp only [hpc, pcWellFormed, hm, wellFormed_of_inTransaction hk.1, Bool.true_and, List.all_eq_true]
  exact fun st hst => wellFormed_of_inTransaction (hk.2 st hst)

theorem plain_cons {st : Stmt} {k : List Stmt} :
    Plain (st :: k) ↔ Stmt.isPlain st = true ∧ Plain k := List.forall_mem_cons

theorem plain_append {k l : List Stmt} : Plain (k ++ l) ↔ Plain k ∧ Plain l := List.forall_mem_append

theorem plain_nil : Plain [] := nofun

theorem plain_iff {k : List Stmt} :
    Plain k ↔ k.all Stmt.inTransaction = true ∧ k.contains .pollNext = false := by
  simp only [Plain, Stmt.isPlain, Bool.and_eq_true, decide_eq_true_eq, List.all_eq_true, List.contains_eq_mem,
    decide_eq_false_iff_not]
  exact ⟨fun h => ⟨fun st hst => (h st hst).1, fun hm => (h _ hm).2 rfl⟩,
    fun h st hst => ⟨h.1 st hst, fun he => h.2 (he ▸ hst)⟩⟩

theorem Plain.all {k : List Stmt} (h : Plain k) : k.all Stmt.inTransaction = true := (plain_iff.1 h).1

theorem Plain.contains {k : List Stmt} (h : Plain k) : k.contains .pollNext = false := (plain_iff.1 h).2

theorem Plain.pollLegal {k : List Stmt} (h : Plain k) (attempt : Nat) : pollLegal attempt k = true := by
  have hc := h.contains
  unfold Machine.pollLegal
  split <;> simp_all

/-- A position whose lines are plain may stand in a running transaction. -/
theorem Running.inv_setPc {s : State} {st : Stmt} {k : List Stmt} (h : Running s) (hm : st.isMicro = true)
    (hk : Plain (st :: k)) : Inv (setPc (st :: k) s) :=
  Running.inv { h with } rfl hm hk.all (hk.pollLegal _)

/-! ## The lines of each pattern -/

theorem plain_tstartCode : Plain tstartCode := List.all_eq_true.1 rfl

theorem plain_sendSlot (v : Byte) : Plain (sendSlot v) := List.all_eq_true.1 rfl

theorem plain_sendTail (v : Byte) : Plain (sendTail v) := List.all_eq_true.1 rfl

theorem plain_recvSlot : Plain recvSlot := List.all_eq_true.1 rfl

theorem plain_recvTail (ack : Bool) : Plain (recvTail ack) := by cases ack <;> exact List.all_eq_true.1 rfl

theorem plain_pulse : Plain pulse := List.all_eq_true.1 rfl

theorem plain_readout : Plain readout := List.all_eq_true.1 rfl

/-! ## Beginning an operation -/

section

variable {s : State} {k : List Stmt} (h : Running s) (hk : Plain k)
include h hk

theorem inv_beginTstart : Inv (beginTstart k s) :=
  h.inv_setPc rfl (plain_append.2 ⟨plain_tstartCode, hk⟩)

theorem inv_sendRound (v : Byte) {n : Nat} (hn : n ≤ 7) :
    Inv (setPc (sendSlot v ++ .sendNext v :: k) (setCnt { s.cnt with bitcnt := n } s)) :=
  Running.inv_setPc { h with bitcnt := hn } rfl
    (plain_append.2 ⟨plain_sendSlot v, plain_cons.2 ⟨rfl, hk⟩⟩)

theorem inv_beginSendByte (v : Byte) : Inv (beginSendByte v k s) :=
  inv_sendRound h (plain_append.2 ⟨plain_sendTail v, hk⟩) v (Nat.le_refl 7)

theorem inv_recvRound {n : Nat} (hn : n ≤ 7) :
    Inv (setPc (recvSlot ++ .recvNext :: k) (setCnt { s.cnt with bitcnt := n } s)) :=
  Running.inv_setPc { h with bitcnt := hn } rfl
    (plain_append.2 ⟨plain_recvSlot, plain_cons.2 ⟨rfl, hk⟩⟩)

theorem inv_beginRecvByte (ack : Bool) : Inv (beginRecvByte ack k s) :=
  inv_recvRound (s := setRxb 0x00 (setRxValid false s)) { h with } (plain_append.2 ⟨plain_recvTail ack, hk⟩)
    (Nat.le_refl 7)

theorem inv_pulseRound {n : Nat} (hn : n ≤ 9) :
    Inv (setPc (pulse ++ .pulseNext :: k) (setCnt { s.cnt with clkcnt := n } s)) :=
  Running.inv_setPc { h with clkcnt := hn } rfl
    (plain_append.2 ⟨plain_pulse, plain_cons.2 ⟨rfl, hk⟩⟩)

theorem inv_beginReset : Inv (beginReset k s) := by
  have hcode : Plain [.exec .dth, .exec .ws, .pulseStart, .callTstart, .callSendByte Config.cmdSoftReset] :=
    List.all_eq_true.1 rfl
  exact h.inv_setPc rfl (plain_append.2 ⟨hcode, hk⟩)

theorem inv_beginStartMeas (q : Quantity) : Inv (beginStartMeas q k s) :=
  inv_beginTstart h (plain_cons.2 ⟨rfl, hk⟩)

/-- Another poll attempt while attempts are left, else the timeout. -/
theorem inv_pollTop : Inv (pollTop k s) := by
  unfold pollTop
  split
  · exact inv_abort h.toBounded _
  next hn =>
    refine Running.inv (s := setPc (pollRound ++ k) s) { h with } rfl rfl ?_ ?_
    · simp [pollRound, Stmt.inTransaction, hk.all]
    · have hlt : s.cnt.attempt < Config.nPoll := Nat.lt_of_le_of_ne h.attempt hn
      simpa [pollRound, pollLegal, hlt] using hk.contains

theorem inv_beginAwaitRead : Inv (beginAwaitRead k s) :=
  inv_pollTop (s := setCnt { s.cnt with attempt := 0 } (setValValid false s)) { h with attempt := Nat.zero_le _ }
    (plain_append.2 ⟨plain_readout, hk⟩)

theorem inv_beginRead (q : Quantity) : Inv (beginRead q k s) :=
  inv_beginStartMeas (s := setValValid false s) { h with } (plain_cons.2 ⟨rfl, hk⟩) q

theorem inv_beginReadAll : Inv (beginReadAll k s) :=
  inv_beginRead (s := setValValid false (setPairValid false s)) { h with }
    (plain_append.2 ⟨by simp [Plain, Stmt.isPlain, Stmt.inTransaction], hk⟩) .temperature

end

/-! ## Control lines -/

/-- The control lines of a transaction, no poll attempt under way, lead to an invariant state. -/
theorem inv_settle : ∀ {k : List Stmt} {s : State}, Running s → Plain k → Inv (settle k s)
  | [], _, h, _ => inv_complete h.toBounded
  | st :: k, s, h, hst => by
    obtain ⟨hp, hk⟩ := plain_cons.1 hst
    cases st with
    | exec | execDataBit | execCupHi | execCupLo => exact h.inv_setPc rfl hst
    | sendNext v =>
      rw [settle_sendNext]
      split
      · exact inv_settle h hk
      · exact inv_sendRound h hk v ((Nat.sub_le _ _).trans h.bitcnt)
    | ackTest =>
      rw [settle_ackTest]
      split
      · exact inv_abort h.toBounded _
      · exact inv_settle h hk
    | recvOr =>
      rw [settle_recvOr]
      split <;> exact inv_settle { h with } hk
    | recvNext =>
      rw [settle_recvNext]
      split
      · exact inv_settle h hk
      · exact inv_recvRound h hk ((Nat.sub_le _ _).trans h.bitcnt)
    | pulseStart => exact inv_pulseRound h hk (by decide)
    | pulseNext =>
      rw [settle_pulseNext]
      split
      · exact inv_settle h hk
      next hn => exact inv_pulseRound h hk (Nat.lt_of_le_of_ne h.clkcnt hn)
    | pollNext | markOpened => cases hp
    | checksum =>
      rw [settle_checksum]
      split
      · exact inv_settle (s := deliverValue s) { h with } hk
      · exact inv_abort (s := setCrcOk false s) { h with } _
    | recvDone | hiFromRxb | loFromRxb | chkFromRxb | saveTemperature | deliverPair =>
      exact inv_settle (k := k) { h with } hk
    | callTstart => exact inv_beginTstart h hk
    | callSendByte v => exact inv_beginSendByte h hk v
    | callRecvByte ack => exact inv_beginRecvByte h hk ack
    | callAwaitRead => exact inv_beginAwaitRead h hk
    | callRead q => exact inv_beginRead h hk q

/-- The sample of a poll attempt under way is the next micro-operation. -/
theorem inv_pollRest {k : List Stmt} {s : State} (h : Running s) (hn : s.cnt.attempt < Config.nPoll)
    (hk : Plain k) : Inv (settle (.exec .drd :: .pollNext :: k) s) := by
  refine Running.inv (s := setPc (.exec .drd :: .pollNext :: k) s) { h with } rfl rfl ?_ ?_
  · simp [Stmt.inTransaction, hk.all]
  · simpa [pollLegal, hn] using hk.contains

/-- The end of a poll attempt under way: it is counted, and there is one left for the count. -/
theorem inv_settle_pollNext {k : List Stmt} {s : State} (h : Running s) (hn : s.cnt.attempt < Config.nPoll)
    (hk : Plain k) : Inv (settle (.pollNext :: k) s) := by
  have hc : Running (setCnt { s.cnt with attempt := s.cnt.attempt + 1 } s) := { h with attempt := hn }
  rw [settle_pollNext]
  split
  · exact inv_pollTop hc hk
  · exact inv_settle hc hk

/-! ## Micro-operations -/

/-- No line of a transaction closes the lines. -/
theorem micro_ne_cls {s : State} {st : Stmt} {u : Instr} (hm : Stmt.micro s st = some u)
    (ht : Stmt.inTransaction st = true) : u ≠ .cls := by
  rintro rfl
  cases st with
  | exec v =>
    obtain rfl : v = .cls := Option.some.inj hm
    cases ht
  | execDataBit v =>
    simp only [Stmt.micro, Option.some.injEq] at hm
    split at hm <;> cases hm
  | _ => cases hm

theorem Bounded.microDone {s : State} (h : Bounded s) (u : Instr) : Bounded (Machine.microDone u s) := by
  cases u with
  | cls => exact { h with lines := nofun }
  | cko | ckl | ckh => exact { h with lines := fun ho => ⟨nofun, (h.lines ho).2⟩ }
  | dtl | dth => exact { h with lines := fun ho => ⟨(h.lines ho).1, nofun⟩ }
  | _ => exact { h with }

/-- Only `CLS` clears `OPENED`. -/
theorem microDone_opened {u : Instr} (hu : u ≠ .cls) (s : State) :
    (microDone u s).flags.opened = s.flags.opened := by
  cases u with
  | cls => exact absurd rfl hu
  | _ => rfl

theorem Bounded.microFailed {s : State} (h : Bounded s) (u : Instr) : Bounded (Machine.microFailed u s) := by
  cases u with
  | cko | ckl | ckh => exact { h with lines := fun ho => ⟨nofun, (h.lines ho).2⟩ }
  | dtl => exact { h with lines := fun ho => ⟨(h.lines ho).1, nofun⟩ }
  | _ => exact { h with }

/-! ## Where a running command can be -/

/-- The positions of `positionLegal`, one constructor for each. -/
inductive Position (s : State) : List Stmt → Prop where
  | idle : Position s []
  | initWl (ho : s.flags.opened = false) : Position s [.exec .wl, .exec .cko, .exec .ckl, .exec .dtl, .markOpened]
  | initCko (ho : s.flags.opened = false) : Position s [.exec .cko, .exec .ckl, .exec .dtl, .markOpened]
  | initCkl (ho : s.flags.opened = false) (hc : s.clk ≠ .closed) :
      Position s [.exec .ckl, .exec .dtl, .markOpened]
  | initDtl (ho : s.flags.opened = false) (hc : s.clk ≠ .closed) : Position s [.exec .dtl, .markOpened]
  | shutdown : Position s [.exec .cls]
  | transaction (k : List Stmt) (ho : s.flags.opened = true) (hk : k.all Stmt.inTransaction = true)
      (hp : pollLegal s.cnt.attempt k = true) : Position s k

theorem position_of_positionLegal {s : State} (h : positionLegal s = true) : Position s s.seq.pc := by
  unfold positionLegal at h
  split at h
  next hpc => exact hpc ▸ .idle
  next hpc => exact hpc ▸ .initWl (by simpa using h)
  next hpc => exact hpc ▸ .initCko (by simpa using h)
  next hpc => exact hpc ▸ .initCkl (by simp_all) (by simp_all)
  next hpc => exact hpc ▸ .initDtl (by simp_all) (by simp_all)
  next hpc => exact hpc ▸ .shutdown
  next =>
    simp only [Bool.and_eq_true] at h
    exact .transaction _ h.1.1 h.1.2 h.2

/-- What follows a micro-operation in a transaction: a plain position, or the rest of a poll attempt. -/
theorem rest_of_transaction {attempt : Nat} {st : Stmt} {k : List Stmt}
    (hk : (st :: k).all Stmt.inTransaction = true) (hp : pollLegal attempt (st :: k) = true) :
    Plain k ∨ attempt < Config.nPoll ∧ ∃ k', Plain k' ∧ (k = .exec .drd :: .pollNext :: k' ∨ k = .pollNext :: k') := by
  have hall : k.all Stmt.inTransaction = true := by
    rw [List.all_cons, Bool.and_eq_true] at hk
    exact hk.2
  unfold pollLegal at hp
  split at hp
  next k' heq =>
    cases heq
    simp only [Bool.and_eq_true, decide_eq_true_eq, Bool.not_eq_true'] at hp
    exact .inr ⟨hp.1, k', plain_iff.2 ⟨by simpa [Stmt.inTransaction] using hall, hp.2⟩, .inl rfl⟩
  next k' heq =>
    cases heq
    simp only [Bool.and_eq_true, decide_eq_true_eq, Bool.not_eq_true'] at hp
    exact .inr ⟨hp.1, k', plain_iff.2 ⟨by simpa [Stmt.inTransaction] using hall, hp.2⟩, .inr rfl⟩
  next => exact .inl (plain_iff.2 ⟨hall, by simp_all⟩)

/-! ## The steps -/

/-- An accepted command leads from an invariant idle state to an invariant state. -/
theorem inv_beginCommand {i : Instr} {s : State} (hi : i.layer = .command) (h : Bounded s)
    (ho : Instr.needsLines i = true → s.flags.opened = true) : Inv (beginCommand i (accept s)) := by
  have running (hn : Instr.needsLines i = true) : Running (accept s) :=
    { h with busy := rfl, err := rfl, opened := ho hn }
  cases i with
  | initLines =>
    exact inv_busy (s := beginCommand .initLines (accept s)) { h with lines := nofun } rfl rfl nofun rfl rfl
  | shutdown => exact inv_busy (s := beginCommand .shutdown (accept s)) { h with } rfl rfl nofun rfl rfl
  | reset => exact inv_beginReset (running rfl) plain_nil
  | tstart => exact inv_beginTstart (running rfl) plain_nil
  | sendByte v => exact inv_beginSendByte (running rfl) plain_nil v
  | recvByte ack => exact inv_beginRecvByte (running rfl) plain_nil ack
  | startMeas q => exact inv_beginStartMeas (running rfl) plain_nil q
  | awaitRead => exact inv_beginAwaitRead (running rfl) plain_nil
  | read q => exact inv_beginRead (running rfl) plain_nil q
  | readAll => exact inv_beginReadAll (running rfl) plain_nil
  | crcReset | crcUpdate | crcValue | crcVerify => exact inv_complete { h with }
  | _ => cases hi

/-- A micro-operation that succeeds, and the control lines after it, lead from an invariant state to an invariant
state. -/
theorem inv_settle_microDone {s : State} {st : Stmt} {k : List Stmt} {u : Instr} (e : Env) (h : Inv s)
    (hb : s.flags.busy = true) (hpc : s.seq.pc = st :: k) (hm : Stmt.micro s st = some u) :
    Inv (settle k (microDone u (setEnv e (setPc k s)))) := by
  have hpos := position_of_positionLegal h.legal
  have hr : Bounded (microDone u (setEnv e (setPc k s))) :=
    Bounded.microDone (s := setEnv e (setPc k s)) { h.bounded with } u
  have hrb : (microDone u (setEnv e (setPc k s))).flags.busy = true := by simpa using hb
  have hre : (microDone u (setEnv e (setPc k s))).err = .none := by simpa using h.err_running hb
  rw [hpc] at hpos
  cases hpos with
  | initWl ho | initCko ho | initCkl ho =>
    cases hm
    exact inv_busy { hr with } hrb hre nofun rfl (by simp [positionLegal, microDone, ho])
  | initDtl ho hc =>
    cases hm
    exact inv_complete (s := setOpened true (microDone .dtl _)) { hr with lines := fun _ => ⟨hc, nofun⟩ }
  | shutdown =>
    cases hm
    exact inv_complete hr
  | transaction _ ho hk hp =>
    have hcls : u ≠ .cls := by
      rw [List.all_cons, Bool.and_eq_true] at hk
      exact micro_ne_cls hm hk.1
    have hrun : Running (microDone u (setEnv e (setPc k s))) :=
      { hr with busy := hrb, err := hre, opened := (microDone_opened hcls _).trans ho }
    rcases rest_of_transaction hk hp with hplain | ⟨hn, k', hplain, rfl | rfl⟩
    · exact inv_settle hrun hplain
    · exact inv_pollRest hrun (by simpa using hn) hplain
    · exact inv_settle_pollNext hrun (by simpa using hn) hplain

/-- In an invariant state a running command has a micro-operation at the head of its position. -/
theorem Inv.head_isMicro {s : State} (h : Inv s) {st : Stmt} {k : List Stmt} (hpc : s.seq.pc = st :: k) :
    st.isMicro = true := by
  have hp := h.position
  rw [hpc] at hp
  simp only [pcWellFormed, Bool.and_eq_true] at hp
  exact hp.1.1

theorem isMicro_of_micro_eq_none {s : State} {st : Stmt} (h : Stmt.micro s st = none) : st.isMicro = false := by
  cases st with
  | exec | execDataBit | execCupHi | execCupLo => cases h
  | _ => rfl

/-- Settles O52, by the forms of a step; the last of them cannot occur in an invariant state. -/
theorem invariantKeptByEveryStep : Obligations.InvariantKeptByEveryStep := by
  unfold Obligations.InvariantKeptByEveryStep
  intro s t h hs
  cases stepTo_of_step hs with
  | wait same => exact same ▸ h
  | accepted i p ws idle fetched lines after =>
    obtain ⟨-, hi, -⟩ := fetch_command fetched
    exact after ▸ inv_beginCommand (s := { s with port := p, script := ws }) hi { h.bounded with } lines
  | done st k u e busy pc micro fetched after => exact after ▸ inv_settle_microDone e h busy pc micro
  | failed k u p e busy after =>
    exact after ▸ inv_abort (Bounded.microFailed (s := setEnv e (setPc k s)) { h.bounded with } u) _
  | control busy noMicro after =>
    cases hpc : s.seq.pc with
    | nil => exact absurd hpc (h.busy_iff.1 busy)
    | cons st k =>
      have hfalse := isMicro_of_micro_eq_none (noMicro st k hpc)
      rw [h.head_isMicro hpc] at hfalse
      cases hfalse

end Sys2Proof.Machine
end


section
/-! The statements over all steps of all states: what changes `ERR` and `CRC`, and what no operation looks at. -/

namespace Sys2Proof.Machine

/-! ## The accumulator -/

/-- Only `CRS` and `CUP` write `CRC`. -/
theorem microDone_crc {u : Instr} (hcrs : u ≠ .crs) (hcup : ∀ v, u ≠ .cup v) (s : State) :
    (microDone u s).regs.crc = s.regs.crc := by
  cases u with
  | crs => exact absurd rfl hcrs
  | cup v => exact absurd rfl (hcup v)
  | _ => rfl

/-- Only `CRC_RESET` and `CRC_UPDATE` write `CRC` at acceptance. -/
theorem beginCommand_crc {i : Instr} (hreset : i ≠ .crcReset) (hupdate : ∀ v, i ≠ .crcUpdate v) (s : State) :
    (beginCommand i s).regs.crc = s.regs.crc := by
  cases i with
  | crcReset => exact absurd rfl hreset
  | crcUpdate v => exact absurd rfl (hupdate v)
  | awaitRead => exact (pollTop_sameWires readout _).crc
  | _ => rfl

/-- Settles O48: a step writes `CRC` by the instruction it fetches, and no control line and no abort writes it. -/
theorem accumulatorHasFourWriters : Obligations.AccumulatorHasFourWriters := by
  unfold Obligations.AccumulatorHasFourWriters
  intro s t hs
  cases stepTo_of_step hs with
  | wait same => exact .inl (same ▸ rfl)
  | accepted i p ws idle fetched lines after =>
    by_cases hreset : i = .crcReset
    · subst hreset after
      exact .inr (.inl ⟨⟨_, .inr fetched⟩, rfl⟩)
    by_cases hupdate : ∃ v, i = .crcUpdate v
    · obtain ⟨v, rfl⟩ := hupdate
      exact .inr (.inr ⟨v, _, .inr fetched, after ▸ rfl⟩)
    · exact .inl (after ▸ beginCommand_crc hreset (not_exists.1 hupdate) _)
  | done st k u e busy pc micro fetched after =>
    have hcrc : t.regs.crc = (microDone u (setEnv e (setPc k s))).regs.crc :=
      after ▸ (settle_sameWires k _).crc
    by_cases hcrs : u = .crs
    · subst hcrs
      exact .inr (.inl ⟨⟨_, .inl fetched⟩, hcrc⟩)
    by_cases hcup : ∃ v, u = .cup v
    · obtain ⟨v, rfl⟩ := hcup
      exact .inr (.inr ⟨v, _, .inl fetched, hcrc⟩)
    · exact .inl (hcrc.trans (microDone_crc hcrs (not_exists.1 hcup) _))
  | failed k u p e busy after => exact .inl (by simp [after])
  | control busy noMicro after => exact .inl (after ▸ (settle_sameWires _ s).crc)

/-! ## The error code -/

/-- A command has ended in an error: idle, no position, no valid result; `ERRINFO` is as in `s` but for a
`LineIoError` (R227, R229). -/
structure EndedInError (s t : State) : Prop where
  err : t.err ≠ .none
  busy : t.flags.busy = false
  pc : t.seq.pc = []
  rxValid : t.flags.rxValid = false
  valValid : t.flags.valValid = false
  pairValid : t.flags.pairValid = false
  errInfo : t.errInfo = s.errInfo ∨ t.err = .lineIo

theorem endedInError_abort (r : Raised) (s : State) : EndedInError s (abort r s) where
  err := by cases r <;> nofun
  busy := rfl
  pc := rfl
  rxValid := rfl
  valValid := rfl
  pairValid := rfl
  errInfo := by cases r <;> simp [Raised.info, Raised.kind]

/-- `ERR` and `ERRINFO` are kept, or the command has ended in an error. -/
def ErrKeptOrEnded (s t : State) : Prop := (t.err = s.err ∧ t.errInfo = s.errInfo) ∨ EndedInError s t

/-- An update `s'` of `s` that keeps both registers may come first. -/
theorem ErrKeptOrEnded.of_eq {s s' t : State} (h : ErrKeptOrEnded s' t) (he : s'.err = s.err)
    (hi : s'.errInfo = s.errInfo) : ErrKeptOrEnded s t := by
  rcases h with ⟨h1, h2⟩ | h
  · exact .inl ⟨h1.trans he, h2.trans hi⟩
  · exact .inr { h with errInfo := hi ▸ h.errInfo }

theorem errKeptOrEnded_abort (r : Raised) (s : State) : ErrKeptOrEnded s (abort r s) :=
  .inr (endedInError_abort r s)

theorem errKeptOrEnded_pollTop (k : List Stmt) (s : State) : ErrKeptOrEnded s (pollTop k s) := by
  unfold pollTop
  split
  · exact errKeptOrEnded_abort _ s
  · exact .inl ⟨rfl, rfl⟩

/-- A control line changes `ERR` only by raising an error. -/
theorem errKeptOrEnded_settle : ∀ (k : List Stmt) (s : State), ErrKeptOrEnded s (settle k s)
  | [], s => .inl ⟨rfl, rfl⟩
  | st :: k, s => by
    have keep (s' : State) (he : s'.err = s.err) (hi : s'.errInfo = s.errInfo) : ErrKeptOrEnded s (settle k s') :=
      (errKeptOrEnded_settle k s').of_eq he hi
    cases st with
    | sendNext v =>
      rw [settle_sendNext]
      split
      · exact keep _ rfl rfl
      · exact .inl ⟨rfl, rfl⟩
    | ackTest =>
      rw [settle_ackTest]
      split
      · exact errKeptOrEnded_abort _ s
      · exact keep _ rfl rfl
    | recvOr =>
      rw [settle_recvOr]
      split <;> exact keep _ rfl rfl
    | recvNext =>
      rw [settle_recvNext]
      split
      · exact keep _ rfl rfl
      · exact .inl ⟨rfl, rfl⟩
    | pulseNext =>
      rw [settle_pulseNext]
      split
      · exact keep _ rfl rfl
      · exact .inl ⟨rfl, rfl⟩
    | pollNext =>
      rw [settle_pollNext]
      split
      · exact (errKeptOrEnded_pollTop k _).of_eq rfl rfl
      · exact keep _ rfl rfl
    | checksum =>
      rw [settle_checksum]
      split
      · exact keep _ rfl rfl
      · exact (errKeptOrEnded_abort _ (setCrcOk false s)).of_eq rfl rfl
    | callAwaitRead => exact (errKeptOrEnded_pollTop (readout ++ k) (setCnt _ (setValValid false s))).of_eq rfl rfl
    | recvDone | hiFromRxb | loFromRxb | chkFromRxb | saveTemperature | deliverPair | markOpened => exact keep _ rfl rfl
    | _ => exact .inl ⟨rfl, rfl⟩

/-- Acceptance raises no error. -/
theorem beginCommand_err (i : Instr) (s : State) : (beginCommand i s).err = s.err := by cases i <;> rfl

/-- Settles O21: acceptance clears `ERR`; a busy block keeps it or raises an error, which ends the command. -/
theorem errorEndsTheCommand : Obligations.ErrorEndsTheCommand := by
  unfold Obligations.ErrorEndsTheCommand
  intro s t hs
  have running (busy : s.flags.busy = true) (h : ErrKeptOrEnded s t) :
      t.err = s.err ∨ (t.err = .none ∧ s.flags.busy = false) ∨
      (t.err ≠ .none ∧ s.flags.busy = true ∧ t.flags.busy = false ∧ t.seq.pc = [] ∧
        t.flags.rxValid = false ∧ t.flags.valValid = false ∧ t.flags.pairValid = false ∧
        (t.errInfo = s.errInfo ∨ t.err = .lineIo)) := by
    rcases h with ⟨h, -⟩ | h
    · exact .inl h
    · exact .inr (.inr ⟨h.err, busy, h.busy, h.pc, h.rxValid, h.valValid, h.pairValid, h.errInfo⟩)
  cases stepTo_of_step hs with
  | wait same => exact .inl (same ▸ rfl)
  | accepted i p ws idle fetched lines after => exact .inr (.inl ⟨after ▸ beginCommand_err i _, idle⟩)
  | done st k u e busy pc micro fetched after =>
    exact running busy (after ▸ (errKeptOrEnded_settle k _).of_eq (by simp) (by simp))
  | failed k u p e busy after => 
    have h := endedInError_abort (.lineIo p) (microFailed u (setEnv e (setPc k s)))
    exact running busy (.inr (after ▸ { h with errInfo := .inr rfl }))
  | control busy noMicro after => exact running busy (after ▸ errKeptOrEnded_settle _ s)

/-! ## The result flags -/

/-- `f` never looks at a result flag: what it does is the same, but for those flags, once they are cleared. -/
def IgnoresResultFlags (f : State → State) : Prop :=
  ∀ s, eraseResultFlags (f s) = eraseResultFlags (f (eraseResultFlags s))

/-- An outcome with the result flags of its state cleared. -/
def eraseOutcome : Host.Outcome State Fault Refusal → Host.Outcome State Fault Refusal
  | .next s => .next (eraseResultFlags s)
  | .fault f => .fault f
  | .refused r => .refused r

theorem sameButResultFlags_iff {a b : Host.Outcome State Fault Refusal} :
    SameButResultFlags a b ↔ eraseOutcome a = eraseOutcome b := by
  cases a <;> cases b <;> simp [SameButResultFlags, eraseOutcome]

/-- `g` never looks at a result flag to decide what it answers. -/
def OutcomeIgnoresResultFlags (g : State → Host.Outcome State Fault Refusal) : Prop :=
  ∀ s, eraseOutcome (g s) = eraseOutcome (g (eraseResultFlags s))

section

variable {f g : State → State} {o o' : State → Host.Outcome State Fault Refusal} {c : State → Prop} [DecidablePred c]

theorem IgnoresResultFlags.comp (hf : IgnoresResultFlags f) (hg : IgnoresResultFlags g) :
    IgnoresResultFlags (fun s => f (g s)) := fun s =>
  calc eraseResultFlags (f (g s))
    _ = eraseResultFlags (f (eraseResultFlags (g s))) := hf _
    _ = eraseResultFlags (f (eraseResultFlags (g (eraseResultFlags s)))) := by rw [hg s]
    _ = eraseResultFlags (f (g (eraseResultFlags s))) := (hf _).symm

/-- A branch on anything but a result flag. -/
theorem IgnoresResultFlags.ite (hc : ∀ s, c (eraseResultFlags s) ↔ c s) (hf : IgnoresResultFlags f)
    (hg : IgnoresResultFlags g) : IgnoresResultFlags (fun s => if c s then f s else g s) := fun s => by
  by_cases h : c s
  · simpa [h, hc] using hf s
  · simpa [h, hc] using hg s

theorem OutcomeIgnoresResultFlags.next (hf : IgnoresResultFlags f) :
    OutcomeIgnoresResultFlags (fun s => .next (f s)) := fun s => congrArg Host.Outcome.next (hf s)

theorem OutcomeIgnoresResultFlags.refused (r : Refusal) : OutcomeIgnoresResultFlags (fun _ => .refused r) :=
  fun _ => rfl

theorem OutcomeIgnoresResultFlags.ite (hc : ∀ s, c (eraseResultFlags s) ↔ c s) (ho : OutcomeIgnoresResultFlags o)
    (ho' : OutcomeIgnoresResultFlags o') : OutcomeIgnoresResultFlags (fun s => if c s then o s else o' s) :=
  fun s => by
    by_cases h : c s
    · simpa [h, hc] using ho s
    · simpa [h, hc] using ho' s

theorem startCommand_ignores (hf : IgnoresResultFlags f) : OutcomeIgnoresResultFlags (startCommand f) :=
  .ite (fun _ => Iff.rfl) (.refused _) (.next (hf.comp fun _ => rfl))

theorem startBusCommand_ignores (hf : IgnoresResultFlags f) : OutcomeIgnoresResultFlags (startBusCommand f) :=
  .ite (fun _ => Iff.rfl) (.refused _) (.ite (fun _ => Iff.rfl) (.next (hf.comp fun _ => rfl)) (.refused _))

/-- A line action whose calls depend on the driver of DATA alone. -/
theorem lineAction_ignores (cs : DatDriver → List LineCall) (hf : IgnoresResultFlags f) (hg : IgnoresResultFlags g) :
    OutcomeIgnoresResultFlags (fun s => lineAction (cs s.dat) f g s) := fun s => by
  show eraseOutcome (lineAction (cs s.dat) f g s) = eraseOutcome (lineAction (cs s.dat) f g (eraseResultFlags s))
  rcases lineAction_cases (cs s.dat) f g s with ⟨e, he, hs⟩ | ⟨p, e, he, hs⟩
  · rw [hs, lineAction_ok (s := eraseResultFlags s) he]
    exact OutcomeIgnoresResultFlags.next (hf.comp (g := setEnv e) fun _ => rfl) s
  · rw [hs, lineAction_fail (s := eraseResultFlags s) he]
    exact OutcomeIgnoresResultFlags.next
      (IgnoresResultFlags.comp (f := abort (.lineIo p)) (fun _ => rfl) (hg.comp (g := setEnv e) fun _ => rfl)) s

end

theorem pollTop_ignores (k : List Stmt) : IgnoresResultFlags (pollTop k) :=
  .ite (fun _ => Iff.rfl) (fun _ => rfl) (fun _ => rfl)

theorem beginAwaitRead_ignores (k : List Stmt) : IgnoresResultFlags (beginAwaitRead k) :=
  (pollTop_ignores (readout ++ k)).comp (fun _ => rfl)

/-- The control lines branch on counters, the sample and the comparison of the checksum. -/
theorem settle_ignores : ∀ k : List Stmt, IgnoresResultFlags (settle k)
  | [] => fun _ => rfl
  | st :: k => by
    have ih := settle_ignores k
    cases st with
    | sendNext | recvNext =>
      exact .ite (fun _ => Iff.rfl) ih (fun _ => rfl)
    | pulseNext =>
      exact .ite (fun _ => Iff.rfl) ih (fun _ => rfl)
    | ackTest => exact .ite (fun _ => Iff.rfl) (fun _ => rfl) ih
    | recvOr => exact ih.comp (.ite (fun _ => Iff.rfl) (fun _ => rfl) (fun _ => rfl))
    | pollNext =>
      exact .ite (fun _ => Iff.rfl) ((pollTop_ignores k).comp (fun _ => rfl)) (ih.comp (fun _ => rfl))
    | checksum => exact .ite (fun _ => Iff.rfl) (ih.comp (g := deliverValue) (fun _ => rfl)) (fun _ => rfl)
    | recvDone | hiFromRxb | loFromRxb | chkFromRxb | saveTemperature | deliverPair | markOpened =>
      exact ih.comp (fun _ => rfl)
    | callAwaitRead => exact beginAwaitRead_ignores k
    | _ => exact fun _ => rfl

theorem beginCommand_ignores (i : Instr) : IgnoresResultFlags (beginCommand i) := by
  cases i with
  | awaitRead => exact beginAwaitRead_ignores []
  | _ => exact fun _ => rfl

theorem exec_command_ignores {i : Instr} (hi : i.layer = .command) : OutcomeIgnoresResultFlags (exec i) := fun s => by
  rw [exec_command hi, exec_command hi]
  split
  · exact startBusCommand_ignores (beginCommand_ignores i) s
  · exact startCommand_ignores (beginCommand_ignores i) s

theorem exec_ignores (i : Instr) : OutcomeIgnoresResultFlags (exec i) := by
  cases i with
  | ws | wl | wp | cls | crs | cup => exact fun _ => rfl
  | cko => exact lineAction_ignores (lineCalls · .cko) (fun _ => rfl) (fun _ => rfl)
  | dtl => exact lineAction_ignores (lineCalls · .dtl) (fun _ => rfl) (fun _ => rfl)
  | ckl =>
    exact .ite (fun _ => Iff.rfl) (.refused _) (lineAction_ignores (lineCalls · .ckl) (fun _ => rfl) (fun _ => rfl))
  | ckh =>
    exact .ite (fun _ => Iff.rfl) (.refused _) (lineAction_ignores (lineCalls · .ckh) (fun _ => rfl) (fun _ => rfl))
  | dth =>
    exact .ite (fun _ => Iff.rfl) (.refused _) (lineAction_ignores (lineCalls · .dth) (fun _ => rfl) (fun _ => rfl))
  | drd =>
    exact .ite (fun _ => Iff.rfl) (.refused _) (lineAction_ignores (lineCalls · .drd) (fun _ => rfl) (fun _ => rfl))
  | _ => exact exec_command_ignores rfl

theorem resume_ignores (o : Host.Outcome State Fault Refusal) :
    eraseOutcome (resume o) = eraseOutcome (resume (eraseOutcome o)) := by
  cases o with
  | next s =>
    refine congrArg Host.Outcome.next ?_
    exact IgnoresResultFlags.ite (c := fun s => s.flags.busy = true) (f := settle s.seq.pc) (g := id)
      (fun _ => Iff.rfl) (settle_ignores _) (fun _ => rfl) s
  | fault | refused => rfl

/-- What is fetched, with the result flags of its state cleared. -/
def Fetched.erase : Fetched → Fetched
  | .command i s => .command i (eraseResultFlags s)
  | .micro u s => .micro u (eraseResultFlags s)
  | .wait => .wait
  | .refuse r => .refuse r
  | .control => .control

theorem present_erase (w : Half) (s : State) : present w (eraseResultFlags s) = (present w s).erase := by
  unfold present
  split <;> rfl

theorem micro_erase (s : State) (st : Stmt) : Stmt.micro (eraseResultFlags s) st = Stmt.micro s st := by
  cases st <;> rfl

/-- The fetch branches on `BUSY`, the host's words and the position. -/
theorem fetch_erase (s : State) : fetch (eraseResultFlags s) = (fetch s).erase := by
  obtain ⟨clk, dat, regs, cnt, ⟨busy, opened, rxValid, valValid, pairValid, crcOk⟩, err, errInfo, ⟨pc, d, t⟩, env,
    port, script, delays⟩ := s
  cases busy with
  | true =>
    cases port with
    | some w => rfl
    | none =>
      cases pc with
      | nil => rfl
      | cons st k => cases st <;> rfl
  | false =>
    cases port with
    | some w =>
      exact present_erase w ⟨clk, dat, regs, cnt, ⟨false, opened, rxValid, valValid, pairValid, crcOk⟩, err, errInfo,
        ⟨pc, d, t⟩, env, none, script, delays⟩
    | none =>
      cases script with
      | nil => rfl
      | cons w ws =>
        exact present_erase w ⟨clk, dat, regs, cnt, ⟨false, opened, rxValid, valValid, pairValid, crcOk⟩, err, errInfo,
          ⟨pc, d, t⟩, env, none, ws, delays⟩

/-- Settles O50: what is fetched, what it does and the control lines after it are each the same once the result flags
are cleared. -/
theorem noOperationReadsAResultFlag : Obligations.NoOperationReadsAResultFlag := by
  unfold Obligations.NoOperationReadsAResultFlag
  have step_ignores : OutcomeIgnoresResultFlags step := fun s => by
    unfold step
    rw [fetch_erase]
    cases fetch s with
    | wait | refuse => rfl
    | command i t => exact exec_ignores i t
    | micro u t =>
      calc eraseOutcome (resume (exec u t))
        _ = eraseOutcome (resume (eraseOutcome (exec u t))) := resume_ignores _
        _ = eraseOutcome (resume (eraseOutcome (exec u (eraseResultFlags t)))) := by rw [exec_ignores u t]
        _ = eraseOutcome (resume (exec u (eraseResultFlags t))) := (resume_ignores _).symm
    | control => exact OutcomeIgnoresResultFlags.next (settle_ignores s.seq.pc) s
  intro s s' h
  rw [sameButResultFlags_iff, step_ignores s, h, ← step_ignores s']

end Sys2Proof.Machine
end


section
/-! The values of the registers after power-on, and what the host and the wires see of a state. -/

namespace Sys2Proof.Machine

/-- Settles O51: at power-on the block is idle with its lines closed and its counters zero. -/
theorem invariantAtReset : Obligations.InvariantAtReset :=
  ⟨by decide, by decide, by decide, by decide, by decide, by decide⟩

/-- `STATUS` with no flag set is zero. -/
theorem statusWord_clear {s : State} (h : s.flags = ⟨false, false, false, false, false, false⟩) :
    statusWord s = 0x00 := by
  unfold statusWord
  rw [h]
  decide

/-- `LINES` of two closed lines is zero. -/
theorem linesWord_closed {s : State} (hc : s.clk = .closed) (hd : s.dat = .closed) : linesWord s = 0x00 := by
  unfold linesWord
  rw [hc, hd]
  decide

/-- Settles O56: power-on keeps of a state only what is the environment's and the host's. -/
theorem resetLeavesTheBlockIdle : Obligations.ResetLeavesTheBlockIdle := by
  intro s r hr
  rcases List.mem_pair.1 hr with rfl | rfl <;>
    exact ⟨rfl, rfl, rfl, rfl, rfl, statusWord_clear rfl, linesWord_closed rfl rfl⟩

/-- A register number above the table is refused. -/
theorem readReg_reserved {n : Nat} (hn : 10 ≤ n) (s : State) : readReg n s = .refused (.reservedRegister n) := by
  obtain ⟨m, rfl⟩ := Nat.exists_eq_add_of_le' hn
  rfl

/-- Settles O57: the table row by row. -/
theorem hostReadsTheRegisterTable : Obligations.HostReadsTheRegisterTable := fun s =>
  ⟨rfl, rfl, rfl, rfl, rfl, rfl, rfl, rfl, rfl, rfl, fun _ hn => readReg_reserved hn s⟩

/-- Bit `i` of `STATUS` is the `i`-th of its flags. -/
theorem statusWord_getLsbD (s : State) (i : Fin 8) :
    (statusWord s).getLsbD i = [s.flags.busy, s.flags.opened, s.flags.rxValid, s.flags.valValid,
      s.flags.pairValid, s.flags.crcOk, false, false][i] := by
  have bits : ∀ b o r v p c : Bool, ∀ i : Fin 8,
      (BitVec.ofBoolListLE [b, o, r, v, p, c, false, false]).getLsbD i = [b, o, r, v, p, c, false, false][i] := by
    decide
  exact bits _ _ _ _ _ _ i

/-- Settles O58: the bits of `STATUS` one by one. -/
theorem statusAndErrorEncoding : Obligations.StatusAndErrorEncoding := fun s =>
  have bit := statusWord_getLsbD s
  ⟨bit 0, bit 1, bit 2, bit 3, bit 4, bit 5, bit 6, bit 7, rfl, rfl, rfl, rfl, rfl⟩

/-- The three fields of `LINES`. -/
theorem linesWord_fields (s : State) :
    (linesWord s).extractLsb' 0 2 = s.clk.code ∧ (linesWord s).extractLsb' 2 2 = s.dat.code ∧
      (linesWord s).extractLsb' 4 4 = 0#4 := by
  unfold linesWord
  cases s.clk <;> cases s.dat <;> decide

/-- Settles O59: the fields are the drivers' codes. -/
theorem linesEncoding : Obligations.LinesEncoding := by
  intro s
  obtain ⟨hclk, hdat, hzero⟩ := linesWord_fields s
  refine ⟨hclk.trans ?_, hdat.trans ?_, hzero⟩
  · cases s.clk <;> rfl
  · cases s.dat <;> rfl

/-- Settles O60, driver by driver, and pull by pull where DATA is released. -/
theorem wireLevels : Obligations.WireLevels := by
  intro s p
  constructor
  · unfold clockWire
    cases s.clk <;> rfl
  · unfold dataWire
    cases s.dat <;> cases p <;> rfl

end Sys2Proof.Machine
end


section
/-! Encoding and decoding. R88's table is read by the two fields of a command word: every row asks for one operation,
and for its operand either zero, one bit or any byte. -/

namespace Sys2Proof

open Machine

/-! ## The fields of a command word -/

@[simp] theorem opField_append (op arg : Byte) : opField (op ++ arg) = op := BitVec.extractLsb'_append_eq_left

@[simp] theorem argField_append (op arg : Byte) : argField (op ++ arg) = arg := BitVec.extractLsb'_append_eq_right

theorem opField_append_argField (w : Half) : opField w ++ argField w = w := by
  exact (BitVec.extractLsb'_append_extractLsb'_eq_extractLsb' (start₁ := 0) rfl).trans BitVec.extractLsb'_eq_self

theorem append_eq_iff {op op' arg arg' : Byte} : op ++ arg = op' ++ arg' ↔ op = op' ∧ arg = arg' := by
  constructor
  · intro h
    exact ⟨by simpa using congrArg opField h, by simpa using congrArg argField h⟩
  · rintro ⟨rfl, rfl⟩
    rfl

/-! ## The three forms of a row -/

/-- A row of an operation without operand. -/
def exactRow (op : Byte) (i : Instr) : CommandRow := ⟨op ++ (0x00 : Byte), 0xFFFF, fun _ => i⟩

/-- A row of an operation with a one-bit operand. -/
def bitRow (op : Byte) (build : Byte → Instr) : CommandRow := ⟨op ++ (0x00 : Byte), 0xFFFE, build⟩

/-- A row of an operation with a byte operand. -/
def byteRow (op : Byte) (build : Byte → Instr) : CommandRow := ⟨op ++ (0x00 : Byte), 0xFF00, build⟩

/-- R88's table by the forms of its rows. -/
theorem commandRows_eq : commandRows =
    [exactRow 0x01 .initLines, exactRow 0x02 .shutdown, exactRow 0x03 .reset, exactRow 0x04 .tstart,
      byteRow 0x05 .sendByte, bitRow 0x06 (fun arg => .recvByte (argAck arg)),
      bitRow 0x07 (fun arg => .startMeas (argQuantity arg)), exactRow 0x08 .awaitRead,
      bitRow 0x09 (fun arg => .read (argQuantity arg)), exactRow 0x0A .readAll, exactRow 0x10 .crcReset,
      byteRow 0x11 .crcUpdate, exactRow 0x12 .crcValue, byteRow 0x13 .crcVerify] := rfl

/-- A row whose mask covers all of `op` selects by `op` and by the masked `arg`. -/
theorem selects_iff (op mask : Byte) (build : Byte → Instr) (w : Half) :
    CommandRow.selects ⟨op ++ (0x00 : Byte), (0xFF : Byte) ++ mask, build⟩ w = true ↔
      opField w = op ∧ argField w &&& mask = 0x00 := by
  have hop : opField w &&& 0xFF = opField w := BitVec.and_allOnes
  rw [CommandRow.selects, beq_iff_eq, ← opField_append_argField w, BitVec.and_append, append_eq_iff, hop,
    opField_append, argField_append]

section

variable (op : Byte) (i : Instr) (build : Byte → Instr) (w : Half)

@[simp] theorem exactRow_selects :
    (exactRow op i).selects w = (decide (opField w = op) && decide (argField w = 0x00)) := by
  have harg : argField w &&& 0xFF = argField w := BitVec.and_allOnes
  exact Bool.eq_iff_iff.2 ((selects_iff op 0xFF (fun _ => i) w).trans (by rw [harg]; simp))

@[simp] theorem bitRow_selects :
    (bitRow op build).selects w = (decide (opField w = op) && decide ((argField w).toNat / 2 = 0)) := by
  have harg : ∀ arg : Byte, arg &&& 0xFE = 0x00 ↔ arg.toNat / 2 = 0 := by decide
  exact Bool.eq_iff_iff.2 ((selects_iff op 0xFE build w).trans (by rw [harg]; simp))

@[simp] theorem byteRow_selects : (byteRow op build).selects w = decide (opField w = op) :=
  Bool.eq_iff_iff.2 ((selects_iff op 0x00 build w).trans (by simp))

@[simp] theorem exactRow_build : (exactRow op i).build = fun _ => i := rfl

@[simp] theorem bitRow_build : (bitRow op build).build = build := rfl

@[simp] theorem byteRow_build : (byteRow op build).build = build := rfl

end

/-! ## Decoding undoes encoding -/

/-- Settles O1: a byte operand by the `op` field, which selects its row alone; every other operand has two values at
most. -/
theorem decodeOfEncode : Obligations.DecodeOfEncode := by
  unfold Obligations.DecodeOfEncode
  intro i
  cases i with
  | sendByte v | crcUpdate v | crcVerify v => simp [decode, encode, commandWord, decodeWord, commandRows_eq]
  | recvByte ack => cases ack <;> rfl
  | startMeas q | read q => cases q <;> rfl
  | _ => rfl

/-! ## Encoding undoes decoding -/

/-- The words that select a row are the encodings of what the row builds from them. -/
def CommandRow.Faithful (r : CommandRow) : Prop :=
  ∀ w, r.selects w = true → encode (r.build (argField w)) = .command w

section

variable {op : Byte} {i : Instr} {build : Byte → Instr}

theorem faithful_exactRow (hi : encode i = .command (commandWord op 0x00)) : (exactRow op i).Faithful := by
  intro w hw
  obtain ⟨rfl, harg⟩ : opField w = op ∧ argField w = 0x00 := by simpa using hw
  rw [exactRow_build, hi, ← harg, commandWord, opField_append_argField]

theorem faithful_byteRow (hb : ∀ v, encode (build v) = .command (commandWord op v)) : (byteRow op build).Faithful := by
  intro w hw
  obtain rfl : opField w = op := by simpa using hw
  rw [byteRow_build, hb, commandWord, opField_append_argField]

theorem faithful_bitRow (h0 : encode (build 0x00) = .command (commandWord op 0x00))
    (h1 : encode (build 0x01) = .command (commandWord op 0x01)) : (bitRow op build).Faithful := by
  intro w hw
  obtain ⟨rfl, harg⟩ : opField w = op ∧ (argField w).toNat / 2 = 0 := by simpa using hw
  have two : ∀ arg : Byte, arg.toNat / 2 = 0 → arg = 0x00 ∨ arg = 0x01 := by decide
  have hb : encode (build (argField w)) = .command (commandWord (opField w) (argField w)) := by
    rcases two _ harg with h | h <;> rw [h] <;> assumption
  rw [bitRow_build, hb, commandWord, opField_append_argField]

end

/-- Every row of R88's table is faithful. -/
theorem faithful_of_mem : ∀ r ∈ commandRows, r.Faithful := by
  rw [commandRows_eq]
  simp only [List.forall_mem_cons, List.not_mem_nil, false_imp_iff, implies_true, and_true]
  exact ⟨faithful_exactRow rfl, faithful_exactRow rfl, faithful_exactRow rfl, faithful_exactRow rfl,
    faithful_byteRow fun _ => rfl, faithful_bitRow rfl rfl, faithful_bitRow rfl rfl, faithful_exactRow rfl,
    faithful_bitRow rfl rfl, faithful_exactRow rfl, faithful_exactRow rfl, faithful_byteRow fun _ => rfl,
    faithful_exactRow rfl, faithful_byteRow fun _ => rfl⟩

theorem encode_of_decodeWord {w : Half} {i : Instr} (h : decodeWord w = .ok i) : encode i = .command w := by
  unfold decodeWord at h
  split at h
  next r hr =>
    cases h
    have hsel : r.selects w = true := by simpa using List.find?_some hr
    exact faithful_of_mem r (List.mem_of_find?_eq_some hr) w hsel
  next => cases h

theorem encode_of_microOfCode : ∀ (code : BitVec 4), ∀ u ∈ microOfCode code, encode u = .micro code 0 := by decide

theorem encode_of_decodeMicro {code : BitVec 4} {operand : Byte} {i : Instr} (h : decodeMicro code operand = .ok i) :
    encode i = .micro code operand := by
  unfold decodeMicro at h
  split at h
  next hcode =>
    cases h
    rw [hcode]
    rfl
  · split at h
    next => cases h
    next u hu =>
      split at h
      next hzero =>
        cases h
        rw [hzero]
        exact encode_of_microOfCode code _ hu
      next => cases h

/-- Settles O2: every row of the table is faithful, and so is every micro-operation's code. -/
theorem encodeOfDecode : Obligations.EncodeOfDecode := by
  unfold Obligations.EncodeOfDecode
  intro e i h
  cases e with
  | command w => exact encode_of_decodeWord h
  | micro code operand => exact encode_of_decodeMicro h

/-! ## Reserved words -/

/-- A word is reserved when it selects no row (R90). -/
theorem decodeWord_eq_error_iff {w : Half} :
    decodeWord w = .error (.reservedWord w) ↔ ∀ r ∈ commandRows, r.selects w = false := by
  rw [decodeWord]
  split
  next r hr =>
    have hsel := List.find?_some hr
    exact ⟨nofun, fun h => by simp [h r (List.mem_of_find?_eq_some hr)] at hsel⟩
  next hnone => simpa using hnone

theorem step_of_reserved {s : State} {w : Half} (hb : s.flags.busy = false) (hp : s.port = some w)
    (hw : decodeWord w = .error (.reservedWord w)) : step s = .refused (.reservedCommandWord w) := by
  simp [step, fetch, present, hb, hp, hw]

/-- R90's list, from the fourteen rows' conditions on the two fields. -/
theorem decodeWord_reserved_iff (w : Half) :
    decodeWord w = .error (.reservedWord w) ↔
      ((opField w).toNat = 0x00 ∨ (0x0B ≤ (opField w).toNat ∧ (opField w).toNat ≤ 0x0F) ∨
        0x14 ≤ (opField w).toNat) ∨
      ((opField w).toNat ∈ [0x01, 0x02, 0x03, 0x04, 0x08, 0x0A, 0x10, 0x12] ∧ argField w ≠ 0x00) ∨
      ((opField w).toNat ∈ [0x06, 0x07, 0x09] ∧ (argField w).toNat / 2 ≠ 0) := by
  rw [decodeWord_eq_error_iff, commandRows_eq]
  simp only [List.mem_cons, List.not_mem_nil, or_false, forall_eq_or_imp, forall_eq, exactRow_selects, bitRow_selects,
    byteRow_selects, Bool.and_eq_false_imp, decide_eq_true_eq, decide_eq_false_iff_not, ← BitVec.toNat_inj,
    BitVec.toNat_ofNat, BitVec.ofNat_eq_ofNat, Nat.reducePow, Nat.reduceMod, ne_eq]
  omega

/-- Settles O3: R90's list, and the refusal of what an idle block is presented. -/
theorem reservedWordsAreRefused : Obligations.ReservedWordsAreRefused := by
  unfold Obligations.ReservedWordsAreRefused
  exact fun w => ⟨decodeWord_reserved_iff w, fun _ hb hp hw => step_of_reserved hb hp hw⟩

/-- Settles O4: the words listed, decoded. -/
theorem specWordsDecode : Obligations.SpecWordsDecode := by
  unfold Obligations.SpecWordsDecode
  decide

/-- Settles O22: the four ways `fetch` can go. -/
theorem stepRunsTheDecodedInstruction : Obligations.StepRunsTheDecodedInstruction := by
  unfold Obligations.StepRunsTheDecodedInstruction
  intro s i
  refine ⟨fun w hb hp hw => ?_, fun w ws hb hp hs hw => ?_, fun st k hb hp hpc hu => step_micro hb hp hpc hu,
    fun hb hp hs => ?_⟩
  · simp [step, fetch, present, hb, hp, hw]
  · simp [step, fetch, present, hb, hp, hs, hw]
  · simp [step, fetch, hb, hp, hs]

end Sys2Proof
end


section
/-! Acceptance: an idle block with its lines opened accepts every bus command, and what its first lines write. -/

namespace Sys2Proof.Machine

/-- The loop of AWAIT_READ starts with an attempt. -/
theorem beginAwaitRead_eq (k : List Stmt) (s : State) :
    beginAwaitRead k s =
      setPc (pollRound ++ (readout ++ k)) (setCnt { s.cnt with attempt := 0 } (setValValid false s)) := rfl

section

variable (k : List Stmt) (s : State)

@[simp] theorem beginInitLines_flags : (beginInitLines k s).flags = { s.flags with opened := false } := rfl
@[simp] theorem beginShutdown_flags : (beginShutdown k s).flags = s.flags := rfl
@[simp] theorem beginReset_flags : (beginReset k s).flags = s.flags := rfl
@[simp] theorem beginTstart_flags : (beginTstart k s).flags = s.flags := rfl
@[simp] theorem beginSendByte_flags (v : Byte) : (beginSendByte v k s).flags = s.flags := rfl
@[simp] theorem beginRecvByte_flags (ack : Bool) :
    (beginRecvByte ack k s).flags = { s.flags with rxValid := false } := rfl
@[simp] theorem beginStartMeas_flags (q : Quantity) : (beginStartMeas q k s).flags = s.flags := rfl
@[simp] theorem beginAwaitRead_flags : (beginAwaitRead k s).flags = { s.flags with valValid := false } := rfl
@[simp] theorem beginRead_flags (q : Quantity) : (beginRead q k s).flags = { s.flags with valValid := false } := rfl
@[simp] theorem beginReadAll_flags :
    (beginReadAll k s).flags = { s.flags with valValid := false, pairValid := false } := rfl

end

/-- An idle block with its lines opened accepts every command. -/
theorem exec_command_accepts {i : Instr} {s : State} (hi : i.layer = .command) (hb : s.flags.busy = false)
    (ho : s.flags.opened = true) : exec i s = .next (beginCommand i (accept s)) := by
  rw [exec_command hi]
  split <;> simp [startBusCommand, startCommand, hb, ho]

/-- Settles O24, command by command: the flags by what each operation's first lines write, the rest by computation. -/
theorem acceptanceStartsTheSequence : Obligations.AcceptanceStartsTheSequence := by
  unfold Obligations.AcceptanceStartsTheSequence
  intro s i hb ho hi
  have hl : i.layer = .command := by
    cases i with
    | ws | wl | wp | cko | ckl | ckh | dtl | dth | drd | cls | crs | cup => simp at hi
    | _ => rfl
  refine ⟨_, exec_command_accepts hl hb ho, ?_⟩
  cases i with
  | initLines | shutdown | reset | tstart | awaitRead | sendByte v | readAll =>
    exact ⟨rfl, nofun, rfl, rfl, rfl, rfl, rfl, rfl, rfl, rfl, rfl, rfl, rfl, by simp [beginCommand, ho]⟩
  | recvByte ack =>
    cases ack <;>
      exact ⟨rfl, nofun, rfl, rfl, rfl, rfl, rfl, rfl, rfl, rfl, rfl, rfl, rfl, by simp [beginCommand, ho]⟩
  | startMeas q | read q =>
    cases q <;>
      exact ⟨rfl, nofun, rfl, rfl, rfl, rfl, rfl, rfl, rfl, rfl, rfl, rfl, rfl, by simp [beginCommand, ho]⟩
  | _ => simp at hi

end Sys2Proof.Machine
end


section
/-! Runs of a command under way, the interface answering. `Leads n c s d t` says that `n` micro-operations take the
lines `c` in state `s` to the lines `d` in state `t`, whatever the caller runs afterwards; the runs of the patterns are
put together from it. -/

namespace Sys2Proof.Machine

/-- A command is under way with its lines opened, nothing on the port, and the interface answering. -/
structure Live (s : State) : Prop where
  busy : s.flags.busy = true
  port : s.port = none
  clk : s.clk ≠ .closed
  dat : s.dat ≠ .closed
  lineOk : LineOk s

/-- A command begun in a state it may be issued in is under way. -/
theorem Ready.live_accept {s : State} (h : Ready s) (hl : LineOk s) : Live (accept s) := by
  obtain ⟨⟨-, hport⟩, -, hclk, hdat⟩ := h
  exact ⟨rfl, hport, hclk, hdat, hl⟩

/-! ## Runs between lines -/

/-- The control lines do not look at the position the state holds. -/
theorem settle_setPc : ∀ (k l : List Stmt) (s : State), settle k (setPc l s) = settle k s
  | [], _, _ => rfl
  | st :: k, l, s => by
    have keep {t u : State} (h : t = setPc l u) : settle k t = settle k u := h ▸ settle_setPc k l u
    have branch {c : Prop} [Decidable c] {t t' u u' : State} (h : t = u) (h' : t' = u') :
        (if c then t else t') = if c then u else u' := by rw [h, h']
    cases st with
    | sendNext | recvNext => exact branch (keep rfl) rfl
    | pulseNext => exact branch (keep rfl) rfl
    | ackTest => exact branch rfl (keep rfl)
    | recvOr => exact keep (apply_ite (setPc l) (s.seq.d = true) (setRxb (setBit s.regs.rxb s.cnt.bitcnt) s) s).symm
    | pollNext => exact branch rfl (keep rfl)
    | checksum => exact branch (keep rfl) rfl
    | recvDone | hiFromRxb | loFromRxb | chkFromRxb | saveTemperature | deliverPair | markOpened => exact keep rfl
    | _ => rfl

/-- `n` micro-operations from the lines `c` in `s` to the lines `d` in `t`. -/
def Leads (n : Nat) (c : List Stmt) (s : State) (d : List Stmt) (t : State) : Prop :=
  ∀ k, Runs n (settle (c ++ k) s) (settle (d ++ k) t)

theorem Leads.trans {m n : Nat} {c d d' : List Stmt} {s t u : State} (h : Leads m c s d t) (g : Leads n d t d' u) :
    Leads (m + n) c s d' u := fun k => runs_trans (h k) (g k)

/-- The caller's lines after those of the callee. -/
theorem Leads.append {n : Nat} {c d : List Stmt} {s t : State} (h : Leads n c s d t) (r : List Stmt) :
    Leads n (c ++ r) s (d ++ r) t := fun k => by
  simpa only [List.append_assoc] using h (r ++ k)

/-- A pattern run to its end, then the next. -/
theorem Leads.seq {m n : Nat} {c c' d : List Stmt} {s t u : State} (h : Leads m c s [] t) (g : Leads n c' t d u) :
    Leads (m + n) (c ++ c') s d u := (h.append c').trans g

/-- A command run to its end completes. -/
theorem Leads.runs {n : Nat} {c : List Stmt} {s t : State} (h : Leads n c s [] t) :
    Runs n (settle c s) (complete t) := by
  simpa using h []

/-! ## Lines without a sample -/

/-- A micro-operation of a transaction but the sample. -/
def Instr.isSilent : Instr → Bool
  | .ws | .wp | .ckl | .ckh | .dtl | .dth | .crs | .cup _ => true
  | _ => false

/-- A line that executes such a micro-operation. -/
def Stmt.isSilent : Stmt → Bool
  | .exec u => Instr.isSilent u
  | .execDataBit _ | .execCupHi | .execCupLo => true
  | _ => false

/-- The effect of a line that executes a micro-operation whose interface calls succeed. -/
def perform (s : State) (st : Stmt) : State :=
  match Stmt.micro s st with
  | some u => microDone u s
  | none => s

/-- What such a line executes is such a micro-operation. -/
theorem micro_of_isSilent {st : Stmt} (hst : Stmt.isSilent st = true) (s : State) :
    ∃ u, Stmt.micro s st = some u ∧ Instr.isSilent u = true := by
  cases st with
  | exec u => exact ⟨u, rfl, hst⟩
  | execDataBit v => exact ⟨_, rfl, by split <;> rfl⟩
  | execCupHi | execCupLo => exact ⟨_, rfl, rfl⟩
  | _ => cases hst

/-- The operand of a line comes from the registers and the counters. -/
theorem micro_congr {s t : State} (hr : t.regs = s.regs) (hc : t.cnt = s.cnt) (st : Stmt) :
    Stmt.micro t st = Stmt.micro s st := by
  cases st <;> simp [Stmt.micro, hr, hc]

theorem settle_of_isSilent {st : Stmt} (hst : Stmt.isSilent st = true) (k : List Stmt) (s : State) :
    settle (st :: k) s = setPc (st :: k) s := by
  cases st with
  | exec | execDataBit | execCupHi | execCupLo => rfl
  | _ => cases hst

/-- Such a line does not look at the environment. -/
theorem perform_setEnv {st : Stmt} (hst : Stmt.isSilent st = true) (e : Env) (s : State) :
    perform (setEnv e s) st = setEnv e (perform s st) := by
  obtain ⟨u, hm, hu⟩ := micro_of_isSilent hst s
  have hm' : Stmt.micro (setEnv e s) st = some u := (micro_congr rfl rfl st).trans hm
  rw [perform, perform, hm, hm']
  cases u with
  | ws | wp | ckl | ckh | dtl | dth | crs | cup => rfl
  | _ => cases hu

theorem foldl_perform_setEnv : ∀ {c : List Stmt}, (∀ st ∈ c, Stmt.isSilent st = true) → ∀ (e : Env) (s : State),
    c.foldl perform (setEnv e s) = setEnv e (c.foldl perform s)
  | [], _, _, _ => rfl
  | st :: c, hc, e, s => by
    obtain ⟨hst, hc⟩ := List.forall_mem_cons.1 hc
    rw [List.foldl_cons, perform_setEnv hst, foldl_perform_setEnv hc, List.foldl_cons]

theorem Live.microDone {s : State} {u : Instr} {e : Env} (h : Live s) (he : LineOk (setEnv e s))
    (hu : Instr.isSilent u = true) : Live (setEnv e (Machine.microDone u s)) := by
  cases u with
  | ckl | ckh => exact { h with clk := nofun, lineOk := he }
  | dtl | dth => exact { h with dat := nofun, lineOk := he }
  | ws | wp | crs | cup => exact { h with lineOk := he }
  | _ => cases hu

/-- While the interface answers, such a micro-operation succeeds, whatever follows it. -/
theorem exec_of_isSilent {s : State} {u : Instr} (h : Live s) (hu : Instr.isSilent u = true) :
    ∃ e, e.pulls = s.env.pulls ∧ LineOk (setEnv e s) ∧
      ∀ k, exec u (setPc k s) = .next (setPc k (setEnv e (microDone u s))) := by
  obtain ⟨e, ha, hpulls, hok⟩ := h.lineOk.takeAnswer
  cases u with
  | ws | wp | crs | cup => exact ⟨s.env, rfl, h.lineOk, fun _ => rfl⟩
  | dth => exact ⟨s.env, rfl, h.lineOk, fun k => if_neg h.dat⟩
  | ckl => exact ⟨e, hpulls, hok, fun k => (if_neg h.clk).trans (lineAction_ok ((calls_ckl s.dat s.env).trans ha))⟩
  | ckh => exact ⟨e, hpulls, hok, fun k => (if_neg h.clk).trans (lineAction_ok ((calls_ckh s.dat s.env).trans ha))⟩
  | dtl => exact ⟨e, hpulls, hok, fun k => lineAction_ok ((calls_dtl h.dat s.env).trans ha)⟩
  | _ => cases hu

/-- One such line, run to its end. -/
theorem leads_line {s : State} {st : Stmt} (h : Live s) (hst : Stmt.isSilent st = true) :
    ∃ e, e.pulls = s.env.pulls ∧ Live (setEnv e (perform s st)) ∧ Leads 1 [st] s [] (setEnv e (perform s st)) := by
  obtain ⟨u, hm, hu⟩ := micro_of_isSilent hst s
  obtain ⟨e, hpulls, hok, hexec⟩ := exec_of_isSilent h hu
  have hp : perform s st = microDone u s := by rw [perform, hm]
  have hlive : Live (setEnv e (microDone u s)) := h.microDone hok hu
  rw [hp]
  refine ⟨e, hpulls, hlive, fun k => runs_one ?_⟩
  calc step (settle (st :: k) s)
    _ = step (setPc (st :: k) s) := by rw [settle_of_isSilent hst]
    _ = .next (settle k (setPc k (setEnv e (microDone u s)))) :=
      step_of_exec (s := setPc (st :: k) s) h.busy h.port rfl ((micro_congr rfl rfl st).trans hm) (hexec k)
        hlive.busy rfl
    _ = .next (settle k (setEnv e (microDone u s))) := by rw [settle_setPc]

/-- Lines without a sample, run to their end. -/
theorem leads_lines : ∀ (c : List Stmt) {s : State}, Live s → (∀ st ∈ c, Stmt.isSilent st = true) →
    ∃ e, e.pulls = s.env.pulls ∧ Live (setEnv e (c.foldl perform s)) ∧
      Leads c.length c s [] (setEnv e (c.foldl perform s))
  | [], s, h, _ => ⟨s.env, rfl, h, fun _ => rfl⟩
  | st :: c, s, h, hc => by
    obtain ⟨hst, hc⟩ := List.forall_mem_cons.1 hc
    obtain ⟨e, hpulls, hlive, hlead⟩ := leads_line h hst
    obtain ⟨e', hpulls', hlive', hlead'⟩ := leads_lines c hlive hc
    rw [foldl_perform_setEnv hc] at hlive' hlead'
    rw [List.length_cons, Nat.add_comm]
    exact ⟨e', hpulls'.trans hpulls, hlive', hlead.seq hlead'⟩

end Sys2Proof.Machine
end


section
/-! The runs of TSTART, SEND_BYTE, RECV_BYTE and AWAIT_READ, the interface answering: for each, the state it ends in, as
a function of the state it begins in, and the run there. A result `∃ e, …` leaves open only the environment reached. -/

namespace Sys2Proof.Machine

/-- Drivers `c` and `d`, environment `e`, and `n` more short delays. -/
def onWires (c : ClkDriver) (d : DatDriver) (e : Env) (n : Nat) (s : State) : State :=
  { s with clk := c, dat := d, env := e, delays := { s.delays with short := s.delays.short + n } }

/-- Write `BITCNT` (R30). -/
def setBitcnt (n : Nat) (s : State) : State := setCnt { s.cnt with bitcnt := n } s

theorem setBitcnt_self {s : State} {n : Nat} (hn : s.cnt.bitcnt = n) : setBitcnt n s = s := by
  subst hn
  rfl

theorem setBitcnt_onWires (m n : Nat) (c c' : ClkDriver) (d d' : DatDriver) (e e' : Env) (i j : Nat) (s : State) :
    setBitcnt n (onWires c' d' e' j (setBitcnt m (onWires c d e i s))) = setBitcnt n (onWires c' d' e' (i + j) s) := by
  simp [onWires, setBitcnt, setCnt, Nat.add_assoc]

/-- A tape is read by samples alone. -/
theorem Tape.of_pulls {tape : List Pull} {s t : State} (h : Tape tape s) (hp : t.env.pulls = s.env.pulls) :
    Tape tape t := by
  rw [Tape, hp]
  exact h

/-! ## The sample -/

/-- A sample: whatever bit it is, what pulls DATA if it is released. -/
theorem leads_drd {s : State} (h : Live s) :
    ∃ b e, Live (setSample b (setEnv e s)) ∧ Leads 1 [.exec .drd] s [] (setSample b (setEnv e s)) ∧
      ∀ p more, s.dat = .released → Tape (p :: more) s → b = pullBit p ∧ Tape more (setSample b (setEnv e s)) := by
  obtain ⟨e, ha, hpulls, hok⟩ := h.lineOk.takeAnswer
  refine ⟨(sample (setEnv e s)).seq.d, e.takePull.2, { h with lineOk := hok }, fun k => runs_one ?_, ?_⟩
  · calc step (settle (.exec .drd :: k) s)
      _ = .next (settle k (sample (setEnv e (setPc k s)))) :=
        step_drd (s := setPc (.exec .drd :: k) s) h.busy h.port rfl h.dat ha
      _ = _ := congrArg Host.Outcome.next (settle_setPc k k (sample (setEnv e s)))
  · intro p more hd htape
    obtain ⟨e', htake, hmore, -⟩ := Env.takePull_of_begins (e := e) (htape.of_pulls (t := setEnv e s) hpulls)
    have hsample := sample_released (s := setEnv e s) hd
    rw [htake]
    exact ⟨hsample.trans (congrArg (pullBit ·.1) htake), hmore⟩

/-! ## TSTART -/

theorem leads_tstart {s : State} (h : Live s) :
    ∃ e, e.pulls = s.env.pulls ∧ Live (setCrc 0x00 (onWires .low .released e 6 s)) ∧
      Leads 13 [.callTstart] s [] (setCrc 0x00 (onWires .low .released e 6 s)) :=
  leads_lines tstartCode h (by decide)

/-! ## SEND_BYTE -/

/-- The driver that puts a bit on DATA (R164). -/
def bitDriver (b : Bool) : DatDriver := if b then .released else .assertLow

theorem perform_execDataBit (v : Byte) (s : State) :
    perform s (.execDataBit v) = setDat (bitDriver (bitOf v s.cnt.bitcnt)) s := by
  cases h : bitOf v s.cnt.bitcnt <;> simp [perform, Stmt.micro, microDone, bitDriver, h]

/-- The first half of a data slot: the bit is put on DATA while CLOCK is LOW. -/
theorem leads_sendSlot_low {s : State} (h : Live s) (v : Byte) :
    ∃ e, e.pulls = s.env.pulls ∧ Live (onWires .low (bitDriver (bitOf v s.cnt.bitcnt)) e 1 s) ∧
      Leads 3 [.exec .ckl, .exec .ws, .execDataBit v] s [] (onWires .low (bitDriver (bitOf v s.cnt.bitcnt)) e 1 s) := by
  have hlines := leads_lines [.exec .ckl, .exec .ws, .execDataBit v] h (List.all_eq_true.1 rfl)
  simp only [List.foldl, perform_execDataBit] at hlines
  exact hlines

/-- The second half of a data slot: CLOCK is raised and DATA held. -/
theorem leads_sendSlot_high {s : State} (h : Live s) :
    ∃ e, e.pulls = s.env.pulls ∧ Live (onWires .high s.dat e 2 s) ∧
      Leads 3 [.exec .ws, .exec .ckh, .exec .ws] s [] (onWires .high s.dat e 2 s) :=
  leads_lines [.exec .ws, .exec .ckh, .exec .ws] h (by decide)

theorem leads_sendSlot {s : State} (h : Live s) (v : Byte) :
    ∃ e, e.pulls = s.env.pulls ∧ Live (onWires .high (bitDriver (bitOf v s.cnt.bitcnt)) e 3 s) ∧
      Leads 6 (sendSlot v) s [] (onWires .high (bitDriver (bitOf v s.cnt.bitcnt)) e 3 s) := by
  obtain ⟨e, hpulls, hlive, hlow⟩ := leads_sendSlot_low h v
  obtain ⟨e', hpulls', hlive', hhigh⟩ := leads_sendSlot_high hlive
  exact ⟨e', hpulls'.trans hpulls, hlive', hlow.seq hhigh⟩

/-- The lines of SEND_BYTE's loop. -/
def sendLoop (v : Byte) : List Stmt := sendSlot v ++ [.sendNext v]

theorem leads_sendNext_succ {s : State} {n : Nat} (hn : s.cnt.bitcnt = n + 1) (v : Byte) :
    Leads 0 [.sendNext v] s (sendLoop v) (setBitcnt n s) := fun k => by
  simp [settle_sendNext, hn, sendLoop, sendSlot, setBitcnt]

theorem leads_sendNext_zero {s : State} (hn : s.cnt.bitcnt = 0) (v : Byte) :
    Leads 0 [.sendNext v] s [] s := fun k => by
  simp [settle_sendNext, hn]

/-- `j` rounds of the loop, `n` left before the last. -/
theorem leads_sendRounds (v : Byte) : ∀ (j : Nat) {s : State} {n : Nat}, Live s → s.cnt.bitcnt = n + j →
    ∃ c d e, e.pulls = s.env.pulls ∧ Live (setBitcnt n (onWires c d e (3 * j) s)) ∧
      Leads (6 * j) (sendLoop v) s (sendLoop v) (setBitcnt n (onWires c d e (3 * j) s))
  | 0, s, n, h, hn => by
    have hs : setBitcnt n (onWires s.clk s.dat s.env 0 s) = s := setBitcnt_self hn
    exact ⟨s.clk, s.dat, s.env, rfl, by rw [hs]; exact h, fun k => by rw [hs]; rfl⟩
  | j + 1, s, n, h, hn => by
    obtain ⟨e, hpulls, hlive, hslot⟩ := leads_sendSlot h v
    have hnext := leads_sendNext_succ (s := onWires .high (bitDriver (bitOf v s.cnt.bitcnt)) e 3 s) (n := n + j) hn v
    obtain ⟨c, d, e', hpulls', hlive', hrest⟩ :=
      leads_sendRounds v j (s := setBitcnt (n + j) (onWires .high (bitDriver (bitOf v s.cnt.bitcnt)) e 3 s)) (n := n)
        { hlive with } rfl
    rw [setBitcnt_onWires] at hlive' hrest
    have hcount : 6 * (j + 1) = 6 + 0 + 6 * j := by omega
    rw [Nat.mul_add_one, Nat.add_comm (3 * j), hcount]
    exact ⟨c, d, e', hpulls'.trans hpulls, hlive', (hslot.seq hnext).trans hrest⟩

/-- The whole loop: the last bit stays on DATA, and CLOCK is HIGH. -/
theorem leads_sendLoop {s : State} (h : Live s) (v : Byte) (hn : s.cnt.bitcnt = topBit) :
    ∃ e, e.pulls = s.env.pulls ∧ Live (setBitcnt 0 (onWires .high (bitDriver (bitOf v 0)) e 24 s)) ∧
      Leads 48 (sendLoop v) s [] (setBitcnt 0 (onWires .high (bitDriver (bitOf v 0)) e 24 s)) := by
  obtain ⟨c, d, e, hpulls, hlive, hrounds⟩ := leads_sendRounds v 7 (n := 0) h hn
  obtain ⟨e', hpulls', hlive', hslot⟩ := leads_sendSlot hlive v
  have hnext := leads_sendNext_zero
    (s := onWires .high (bitDriver (bitOf v 0)) e' 3 (setBitcnt 0 (onWires c d e (3 * 7) s))) rfl v
  exact ⟨e', hpulls'.trans hpulls, hlive', hrounds.trans (hslot.seq hnext)⟩

/-- The acknowledgment is a LOW sample. -/
theorem leads_ackTest {s : State} (hd : s.seq.d = false) : Leads 0 [.ackTest] s [] s := fun k => by
  simp [settle_ackTest, hd]

/-- The state SEND_BYTE ends in, acknowledged. -/
def sentByte (v : Byte) (e : Env) (s : State) : State :=
  setSample false (setCrc (crcUpdate s.regs.crc v) (setBitcnt 0 (onWires .low .released e 28 s)))

theorem leads_sendByte {s : State} (h : Live s) (v : Byte) {more : List Pull} (ht : Tape (.pullLow :: more) s) :
    ∃ e, Tape more (sentByte v e s) ∧ Live (sentByte v e s) ∧ Leads 58 [.callSendByte v] s [] (sentByte v e s) := by
  have hcall : Leads 0 [.callSendByte v] s (sendLoop v ++ sendTail v) (setBitcnt topBit s) := fun _ => rfl
  obtain ⟨e₁, hpulls₁, hlive₁, hloop⟩ := leads_sendLoop (s := setBitcnt topBit s) { h with } v rfl
  obtain ⟨e₂, hpulls₂, hlive₂, hrelease⟩ := leads_lines
    [.exec .ckl, .exec .ws, .exec .dth, .exec .ws, .exec .ckh, .exec .ws] hlive₁ (by decide)
  obtain ⟨b, e₃, hlive₃, hsample, hbit⟩ := leads_drd hlive₂
  obtain ⟨rfl, hmore⟩ := hbit .pullLow more rfl (ht.of_pulls (hpulls₂.trans hpulls₁))
  obtain ⟨e₄, hpulls₄, hlive₄, hend⟩ := leads_lines [.exec (.cup v), .exec .ckl, .exec .ws] hlive₃
    (List.all_eq_true.1 rfl)
  have htail := hrelease.seq (hsample.seq ((leads_ackTest rfl).seq hend))
  exact ⟨e₄, hmore.of_pulls hpulls₄, hlive₄, hcall.trans (hloop.seq htail)⟩

/-! ## RECV_BYTE -/

/-- The receive register after the bits `bs`, most significant first, the last of them bit 0 (R151 d, R165). -/
def assemble : List Bool → Byte → Byte
  | [], r => r
  | b :: bs, r => assemble bs (if b then setBit r bs.length else r)

/-- The eight levels of a byte assemble to it. -/
theorem assemble_bitsOf : ∀ v : Byte, assemble ((bitsOf v).map pullBit) 0x00 = v := by decide

theorem pullBit_pullFor (b : Bool) : pullBit (pullFor b) = b := by cases b <;> rfl

theorem Live.setRxb {s : State} (h : Live s) (v : Byte) : Live (Machine.setRxb v s) := { h with }

theorem leads_recvOr (s : State) :
    Leads 0 [.recvOr] s [] (setRxb (if s.seq.d then setBit s.regs.rxb s.cnt.bitcnt else s.regs.rxb) s) := fun k => by
  cases h : s.seq.d with
  | true => simp [settle_recvOr, h]
  | false =>
    simp only [List.cons_append, settle_recvOr, h, Bool.false_eq_true, if_false]
    rfl

/-- A data slot run to its end, with the sample `b`. -/
def slotReceived (b : Bool) (e : Env) (s : State) : State :=
  setSample b (setRxb (if b then setBit s.regs.rxb s.cnt.bitcnt else s.regs.rxb) (onWires .low s.dat e 2 s))

theorem leads_recvSlot {s : State} (h : Live s) :
    ∃ b e, Live (slotReceived b e s) ∧ Leads 5 recvSlot s [] (slotReceived b e s) ∧
      ∀ p more, s.dat = .released → Tape (p :: more) s → b = pullBit p ∧ Tape more (slotReceived b e s) := by
  obtain ⟨e₁, hpulls₁, hlive₁, hrise⟩ := leads_lines [.exec .ckh, .exec .ws] h (by decide)
  obtain ⟨b, e₂, hlive₂, hsample, hbit⟩ := leads_drd hlive₁
  have hor := leads_recvOr (setSample b (setEnv e₂ (setEnv e₁ ([.exec .ckh, .exec .ws].foldl perform s))))
  obtain ⟨e₃, hpulls₃, hlive₃, hfall⟩ := leads_lines [.exec .ckl, .exec .ws]
    (hlive₂.setRxb (if b then setBit s.regs.rxb s.cnt.bitcnt else s.regs.rxb)) (by decide)
  refine ⟨b, e₃, hlive₃, hrise.seq (hsample.seq (hor.seq hfall)), fun p more hd ht => ?_⟩
  obtain ⟨hb, hmore⟩ := hbit p more hd (ht.of_pulls hpulls₁)
  exact ⟨hb, hmore.of_pulls hpulls₃⟩

/-- The lines of RECV_BYTE's loop. -/
def recvLoop : List Stmt := recvSlot ++ [.recvNext]

theorem leads_recvNext_succ {s : State} {n : Nat} (hn : s.cnt.bitcnt = n + 1) :
    Leads 0 [.recvNext] s recvLoop (setBitcnt n s) := fun k => by
  simp [settle_recvNext, hn, recvLoop, recvSlot, setBitcnt]

theorem leads_recvNext_zero {s : State} (hn : s.cnt.bitcnt = 0) : Leads 0 [.recvNext] s [] s := fun k => by
  simp [settle_recvNext, hn]

/-- The loop run to its end, with the samples `bs`. -/
def bitsReceived (bs : List Bool) (e : Env) (s : State) : State :=
  setSample (bs.getLastD s.seq.d) (setRxb (assemble bs s.regs.rxb)
    (setBitcnt 0 (onWires .low s.dat e (2 * bs.length) s)))

theorem bitsReceived_singleton {b : Bool} {s : State} (hn : s.cnt.bitcnt = 0) (e : Env) :
    slotReceived b e s = bitsReceived [b] e s := by
  rw [← setBitcnt_self (s := slotReceived b e s) hn]
  simp only [bitsReceived, slotReceived, assemble, hn]
  rfl

theorem bitsReceived_cons {b : Bool} {bs : List Bool} {s : State} (hn : s.cnt.bitcnt = bs.length) (e e' : Env)
    (n : Nat) : bitsReceived bs e' (setBitcnt n (slotReceived b e s)) = bitsReceived (b :: bs) e' s := by
  have hcount : 2 + 2 * bs.length = 2 * (bs.length + 1) := by omega
  simp [bitsReceived, slotReceived, assemble, hn, onWires, setBitcnt, setCnt, setRxb, setSample, Nat.add_assoc, hcount,
    -List.getLastD_eq_getLast?, List.getLastD_cons]

/-- The loop from bit `n`, whatever is sampled; from released DATA the samples are the levels of the tape. -/
theorem leads_recvLoop : ∀ (n : Nat) {s : State}, Live s → s.cnt.bitcnt = n →
    ∃ bs e, bs.length = n + 1 ∧ Live (bitsReceived bs e s) ∧ Leads (5 * (n + 1)) recvLoop s [] (bitsReceived bs e s) ∧
      ∀ ps more, ps.length = n + 1 → s.dat = .released → Tape (ps ++ more) s →
        bs = ps.map pullBit ∧ Tape more (bitsReceived bs e s)
  | 0, s, h, hn => by
    obtain ⟨b, e, hlive, hslot, hbit⟩ := leads_recvSlot h
    have hnext := leads_recvNext_zero (s := slotReceived b e s) hn
    rw [bitsReceived_singleton hn] at hlive hslot hnext hbit
    refine ⟨[b], e, rfl, hlive, hslot.seq hnext, fun ps more hps hd ht => ?_⟩
    obtain ⟨p, rfl⟩ := List.length_eq_one_iff.1 hps
    obtain ⟨rfl, hmore⟩ := hbit p more hd ht
    exact ⟨rfl, hmore⟩
  | n + 1, s, h, hn => by
    obtain ⟨b, e, hlive, hslot, hbit⟩ := leads_recvSlot h
    have hnext := leads_recvNext_succ (s := slotReceived b e s) hn
    obtain ⟨bs, e', hlen, hlive', hrest, hbits⟩ :=
      leads_recvLoop n (s := setBitcnt n (slotReceived b e s)) { hlive with } rfl
    rw [bitsReceived_cons (hn.trans hlen.symm)] at hlive' hrest hbits
    refine ⟨b :: bs, e', by simp [hlen], hlive', ?_, fun ps more hps hd ht => ?_⟩
    · have hcount : 5 * (n + 1 + 1) = 5 + 0 + 5 * (n + 1) := by omega
      rw [hcount]
      exact (hslot.seq hnext).trans hrest
    · cases ps with
      | nil => cases hps
      | cons p ps =>
        obtain ⟨rfl, hmore⟩ := hbit p (ps ++ more) hd ht
        obtain ⟨rfl, hmore'⟩ := hbits ps more (Nat.succ.inj hps) hd hmore
        exact ⟨rfl, hmore'⟩

theorem leads_recvDone (s : State) : Leads 0 [.recvDone] s [] (setRxValid true s) := fun _ => rfl

/-- The ninth clock: with `ACK` the block asserts DATA around it. -/
theorem leads_recvTail {s : State} (h : Live s) (ack : Bool) :
    ∃ e, e.pulls = s.env.pulls ∧
      Live (setRxValid true (onWires .low (if ack then .released else s.dat) e 2 s)) ∧
      Leads (if ack then 6 else 4) (recvTail ack) s []
        (setRxValid true (onWires .low (if ack then .released else s.dat) e 2 s)) := by
  cases ack with
  | true =>
    obtain ⟨e, hpulls, hlive, hlines⟩ := leads_lines
      [.exec .dtl, .exec .ckh, .exec .ws, .exec .ckl, .exec .ws, .exec .dth] h (by decide)
    exact ⟨e, hpulls, { hlive with }, hlines.seq (leads_recvDone _)⟩
  | false =>
    obtain ⟨e, hpulls, hlive, hlines⟩ := leads_lines [.exec .ckh, .exec .ws, .exec .ckl, .exec .ws] h (by decide)
    exact ⟨e, hpulls, { hlive with }, hlines.seq (leads_recvDone _)⟩

/-- The state RECV_BYTE ends in, with the samples `bs`. -/
def receivedBits (ack : Bool) (bs : List Bool) (e : Env) (s : State) : State :=
  setRxValid true (setSample (bs.getLastD s.seq.d) (setRxb (assemble bs 0x00)
    (setBitcnt 0 (onWires .low (if ack then .released else s.dat) e 18 s))))

theorem leads_callRecvByte (ack : Bool) (s : State) :
    Leads 0 [.callRecvByte ack] s (recvLoop ++ recvTail ack) (setBitcnt topBit (setRxb 0x00 (setRxValid false s))) :=
  fun k => by cases ack <;> rfl

/-- RECV_BYTE completes whatever is sampled; from released DATA the samples are the levels of the tape. -/
theorem leads_recvBits {s : State} (h : Live s) (ack : Bool) :
    ∃ bs e, bs.length = 8 ∧ Live (receivedBits ack bs e s) ∧
      Leads (if ack then 46 else 44) [.callRecvByte ack] s [] (receivedBits ack bs e s) ∧
      ∀ ps more, ps.length = 8 → s.dat = .released → Tape (ps ++ more) s →
        bs = ps.map pullBit ∧ Tape more (receivedBits ack bs e s) := by
  obtain ⟨bs, e₁, hlen, hlive₁, hloop, hbits⟩ :=
    leads_recvLoop 7 (s := setBitcnt topBit (setRxb 0x00 (setRxValid false s))) { h with } rfl
  obtain ⟨e₂, hpulls, hlive₂, htail⟩ := leads_recvTail hlive₁ ack
  have hs : setRxValid true (onWires .low (if ack then .released else s.dat) e₂ 2
      (bitsReceived bs e₁ (setBitcnt topBit (setRxb 0x00 (setRxValid false s))))) = receivedBits ack bs e₂ s := by
    simp only [bitsReceived, receivedBits, hlen]
    rfl
  have hcount : 0 + (40 + (if ack then 6 else 4)) = if ack then 46 else 44 := by cases ack <;> rfl
  refine ⟨bs, e₂, hlen, hs ▸ hlive₂, ?_, fun ps more hps hd ht => ?_⟩
  · rw [← hs, ← hcount]
    exact (leads_callRecvByte ack s).trans (hloop.seq htail)
  · obtain ⟨hb, hmore⟩ := hbits ps more hps hd ht
    exact ⟨hb, hmore.of_pulls hpulls⟩

/-- The state RECV_BYTE ends in, from released DATA, with the samples of the byte `v`. -/
def receivedByte (v : Byte) (e : Env) (s : State) : State :=
  setRxValid true (setSample (v.getLsbD 0) (setRxb v (setBitcnt 0 (onWires .low .released e 18 s))))

theorem leads_recvByte {s : State} (h : Live s) (ack : Bool) (hd : s.dat = .released) {v : Byte} {more : List Pull}
    (ht : Tape (bitsOf v ++ more) s) :
    ∃ e, Tape more (receivedByte v e s) ∧ Live (receivedByte v e s) ∧
      Leads (if ack then 46 else 44) [.callRecvByte ack] s [] (receivedByte v e s) := by
  obtain ⟨bs, e, -, hlive, hlead, hbits⟩ := leads_recvBits h ack
  obtain ⟨rfl, hmore⟩ := hbits (bitsOf v) more rfl hd ht
  have hlast : ((bitsOf v).map pullBit).getLastD s.seq.d = v.getLsbD 0 := pullBit_pullFor _
  have hs : receivedBits ack ((bitsOf v).map pullBit) e s = receivedByte v e s := by
    rw [receivedBits, hlast, assemble_bitsOf, hd, ite_self, receivedByte]
  rw [hs] at hmore hlive hlead
  exact ⟨e, hmore, hlive, hlead⟩

/-! ## AWAIT_READ: the poll attempts -/

/-- `n` poll attempts made, the last sample being `d`. -/
def polled (n : Nat) (d : Bool) (e : Env) (s : State) : State :=
  setSample d (setCnt { s.cnt with attempt := s.cnt.attempt + n }
    (setDelays { s.delays with poll := s.delays.poll + n } (setEnv e s)))

theorem polled_polled (m n : Nat) (d d' : Bool) (e e' : Env) (s : State) :
    polled n d' e' (polled m d e s) = polled (m + n) d' e' s := by
  simp [polled, setSample, setCnt, setDelays, setEnv, Nat.add_assoc]

/-- An attempt before its end: the delay and the sample. -/
def pollSampled (d : Bool) (e : Env) (s : State) : State :=
  setSample d (setDelays { s.delays with poll := s.delays.poll + 1 } (setEnv e s))

theorem leads_pollSample {s : State} (h : Live s) (hd : s.dat = .released) {p : Pull} {more : List Pull}
    (ht : Tape (p :: more) s) :
    ∃ e, Tape more (pollSampled (pullBit p) e s) ∧ Live (pollSampled (pullBit p) e s) ∧
      Leads 2 [.exec .wp, .exec .drd] s [] (pollSampled (pullBit p) e s) := by
  obtain ⟨e₁, hpulls, hlive₁, hdelay⟩ := leads_line h (st := .exec .wp) rfl
  obtain ⟨b, e₂, hlive₂, hsample, hbit⟩ := leads_drd hlive₁
  obtain ⟨rfl, hmore⟩ := hbit p more hd (ht.of_pulls hpulls)
  exact ⟨e₂, hmore, hlive₂, hdelay.seq hsample⟩

/-- An attempt that finds DATA HIGH, with another left. -/
theorem leads_pollAgain {s : State} (h : Live s) (hd : s.dat = .released) (hn : s.cnt.attempt + 1 < Config.nPoll)
    {more : List Pull} (ht : Tape (.float :: more) s) :
    ∃ e, Tape more (polled 1 true e s) ∧ Live (polled 1 true e s) ∧
      Leads 2 pollRound s pollRound (polled 1 true e s) := by
  obtain ⟨e, hmore, hlive, hsample⟩ := leads_pollSample h hd ht
  have hne : s.cnt.attempt + 1 ≠ Config.nPoll := Nat.ne_of_lt hn
  have hnext : Leads 0 [.pollNext] (pollSampled true e s) pollRound (polled 1 true e s) := fun _ => if_neg hne
  exact ⟨e, hmore, { hlive with }, hsample.seq hnext⟩

/-- An attempt that finds DATA LOW. -/
theorem leads_pollReady {s : State} (h : Live s) (hd : s.dat = .released) {more : List Pull}
    (ht : Tape (.pullLow :: more) s) :
    ∃ e, Tape more (polled 1 false e s) ∧ Live (polled 1 false e s) ∧ Leads 2 pollRound s [] (polled 1 false e s) := by
  obtain ⟨e, hmore, hlive, hsample⟩ := leads_pollSample h hd ht
  have hend : Leads 0 [.pollNext] (pollSampled false e s) [] (polled 1 false e s) := fun _ => rfl
  exact ⟨e, hmore, { hlive with }, hsample.seq hend⟩

/-- `n` attempts that find DATA HIGH, with another left. -/
theorem leads_pollRounds : ∀ (n : Nat) {s : State} {more : List Pull}, Live s → s.dat = .released →
    s.cnt.attempt + n < Config.nPoll → Tape (List.replicate n .float ++ more) s →
    ∃ d e, Tape more (polled n d e s) ∧ Live (polled n d e s) ∧
      Leads (2 * n) pollRound s pollRound (polled n d e s)
  | 0, s, more, h, hd, hn, ht => ⟨s.seq.d, s.env, ht, h, fun _ => rfl⟩
  | n + 1, s, more, h, hd, hn, ht => by
    obtain ⟨e, hmore, hlive, hround⟩ := leads_pollAgain (more := List.replicate n Pull.float ++ more) h hd
      (by omega) ht
    have hn' : (polled 1 true e s).cnt.attempt + n < Config.nPoll := by
      simp only [polled, setSample_cnt, setCnt_cnt]
      omega
    obtain ⟨d, e', hmore', hlive', hrounds⟩ := leads_pollRounds n hlive hd hn' hmore
    rw [polled_polled, Nat.add_comm] at hmore' hlive' hrounds
    rw [Nat.mul_add_one, Nat.add_comm (2 * n)]
    exact ⟨d, e', hmore', hlive', hround.trans hrounds⟩

/-- The poll loop of a sensor that is ready on the `k`-th attempt from here. -/
theorem leads_poll {s : State} {k : Nat} {more : List Pull} (h : Live s) (hd : s.dat = .released) (hk : 1 ≤ k)
    (hn : s.cnt.attempt + k ≤ Config.nPoll) (ht : Tape (List.replicate (k - 1) .float ++ .pullLow :: more) s) :
    ∃ e, Tape more (polled k false e s) ∧ Live (polled k false e s) ∧
      Leads (2 * k) pollRound s [] (polled k false e s) := by
  obtain ⟨n, rfl⟩ := Nat.exists_eq_add_of_le' hk
  obtain ⟨d, e, hmore, hlive, hrounds⟩ := leads_pollRounds n h hd hn ht
  obtain ⟨e', hmore', hlive', hready⟩ := leads_pollReady hlive hd hmore
  rw [polled_polled] at hmore' hlive' hready
  exact ⟨e', hmore', hlive', hrounds.trans hready⟩

/-! ## AWAIT_READ: the readout -/

/-- A data frame: the byte received, stored by the line `store` and accumulated by the line `acc`; `r` and `r'` are
the registers after each. -/
theorem leads_dataFrame {s : State} {store acc : Stmt} {v : Byte} {r r' : Regs} {more : List Pull} (h : Live s)
    (hd : s.dat = .released) (ht : Tape (bitsOf v ++ more) s)
    (hstore : ∀ e, Leads 0 [store] (receivedByte v e s) [] (setRegs r (receivedByte v e s)))
    (hsilent : Stmt.isSilent acc = true)
    (hacc : ∀ e, perform (setRegs r (receivedByte v e s)) acc = setRegs r' (receivedByte v e s)) :
    ∃ e, Tape more (setRegs r' (receivedByte v e s)) ∧ Live (setRegs r' (receivedByte v e s)) ∧
      Leads 47 [.callRecvByte true, store, acc] s [] (setRegs r' (receivedByte v e s)) := by
  obtain ⟨e₁, ht₁, hlive₁, hrecv⟩ := leads_recvByte h true hd ht
  obtain ⟨e₂, hpulls, hlive₂, hline⟩ := leads_line (s := setRegs r (receivedByte v e₁ s)) { hlive₁ with } hsilent
  rw [hacc] at hlive₂ hline
  exact ⟨e₂, ht₁.of_pulls hpulls, hlive₂, hrecv.seq ((hstore e₁).seq hline)⟩

theorem leads_chkFromRxb (s : State) :
    Leads 0 [.chkFromRxb] s [] (setRegs { s.regs with chk := s.regs.rxb } s) := fun _ => rfl

/-- The three frames read, before the comparison. -/
def framesRead (hi lo chk : Byte) (e : Env) (s : State) : State :=
  setRegs
    { s.regs with crc := crcUpdate (crcUpdate s.regs.crc hi) lo, rxb := chk, hi := hi, lo := lo, chk := chk }
    (setRxValid true (setSample (chk.getLsbD 0) (setBitcnt 0 (onWires .low .released e 54 s))))

theorem leads_readout {s : State} (h : Live s) (hd : s.dat = .released) {hi lo chk : Byte} {more : List Pull}
    (ht : Tape (bitsOf hi ++ (bitsOf lo ++ (bitsOf chk ++ more))) s) :
    ∃ e, Tape more (framesRead hi lo chk e s) ∧ Live (framesRead hi lo chk e s) ∧
      Leads 138 readout s [.checksum] (framesRead hi lo chk e s) := by
  obtain ⟨e₁, ht₁, hlive₁, hframe₁⟩ := leads_dataFrame (store := .hiFromRxb) (acc := .execCupHi)
    (r := { s.regs with rxb := hi, hi := hi })
    (r' := { s.regs with rxb := hi, hi := hi, crc := crcUpdate s.regs.crc hi }) h hd ht (fun _ _ => rfl) rfl
    (fun _ => rfl)
  obtain ⟨e₂, ht₂, hlive₂, hframe₂⟩ := leads_dataFrame (store := .loFromRxb) (acc := .execCupLo)
    (r := { s.regs with rxb := lo, hi := hi, lo := lo, crc := crcUpdate s.regs.crc hi })
    (r' := { s.regs with rxb := lo, hi := hi, lo := lo, crc := crcUpdate (crcUpdate s.regs.crc hi) lo })
    hlive₁ rfl ht₁ (fun _ _ => rfl) rfl (fun _ => rfl)
  obtain ⟨e₃, ht₃, hlive₃, hframe₃⟩ := leads_recvByte hlive₂ false rfl (v := chk) ht₂
  have hframes := hframe₁.seq (hframe₂.seq (hframe₃.seq ((leads_chkFromRxb _).append [.checksum])))
  exact ⟨e₃, ht₃, { hlive₃ with }, hframes⟩

/-! ## AWAIT_READ -/

/-- A checksum equal to the mirrored accumulator delivers the value (R168). -/
theorem leads_checksum {s : State} (hchk : s.regs.chk = mirror8 s.regs.crc) :
    Leads 0 [.checksum] s [] (deliverValue s) := fun k => by
  simp [settle_checksum, checksumMatches, hchk]

/-- AWAIT_READ of a sensor that is ready on attempt `k`, before the comparison. -/
def awaited (k : Nat) (hi lo chk : Byte) (e : Env) (s : State) : State :=
  framesRead hi lo chk e (polled k false e (setCnt { s.cnt with attempt := 0 } (setValValid false s)))

section

variable {s : State} {k : Nat} {hi lo chk : Byte} {more : List Pull} (h : Live s) (hd : s.dat = .released) (hk : 1 ≤ k)
  (hk' : k ≤ 62) (ht : Tape (readoutTape k hi lo chk ++ more) s)
include h hd hk hk' ht

theorem leads_awaitFrames :
    ∃ e, Tape more (awaited k hi lo chk e s) ∧ Live (awaited k hi lo chk e s) ∧
      Leads (2 * k + 138) [.callAwaitRead] s [.checksum] (awaited k hi lo chk e s) := by
  have htape : readoutTape k hi lo chk ++ more =
      List.replicate (k - 1) .float ++ .pullLow :: (bitsOf hi ++ (bitsOf lo ++ (bitsOf chk ++ more))) := by
    simp [readoutTape]
  rw [htape] at ht
  have hcall : Leads 0 [.callAwaitRead] s (pollRound ++ readout)
      (setCnt { s.cnt with attempt := 0 } (setValValid false s)) := fun _ => rfl
  obtain ⟨e₁, ht₁, hlive₁, hpoll⟩ := leads_poll (s := setCnt { s.cnt with attempt := 0 } (setValValid false s))
    { h with } hd hk ((Nat.zero_add k).trans_le hk') ht
  obtain ⟨e₂, ht₂, hlive₂, hread⟩ := leads_readout hlive₁ hd ht₁
  have hcount : 2 * k + 138 = 0 + (2 * k + 138) := (Nat.zero_add _).symm
  rw [hcount]
  exact ⟨e₂, ht₂, hlive₂, hcall.trans (hpoll.seq hread)⟩

theorem leads_awaitRead (hchk : chk = mirror8 (crcUpdate (crcUpdate s.regs.crc hi) lo)) :
    ∃ e, Tape more (deliverValue (awaited k hi lo chk e s)) ∧ Live (deliverValue (awaited k hi lo chk e s)) ∧
      Leads (2 * k + 138) [.callAwaitRead] s [] (deliverValue (awaited k hi lo chk e s)) := by
  obtain ⟨e, hmore, hlive, hframes⟩ := leads_awaitFrames h hd hk hk' ht
  exact ⟨e, hmore, { hlive with }, hframes.trans (leads_checksum (s := awaited k hi lo chk e s) hchk)⟩

end

/-! ## START_MEAS -/

/-- The state START_MEAS ends in, acknowledged. -/
def measStarted (q : Quantity) (e : Env) (s : State) : State :=
  setSample false (setCrc (crcUpdate 0x00 (mtByte q)) (setBitcnt 0 (onWires .low .released e 34 s)))

theorem leads_startMeas {s : State} (h : Live s) (q : Quantity) {more : List Pull} (ht : Tape (.pullLow :: more) s) :
    ∃ e, Tape more (measStarted q e s) ∧ Live (measStarted q e s) ∧
      Leads 71 [.callTstart, .callSendByte (mtByte q)] s [] (measStarted q e s) := by
  obtain ⟨e₁, hpulls, hlive₁, htstart⟩ := leads_tstart h
  obtain ⟨e₂, hmore, hlive₂, hsend⟩ := leads_sendByte hlive₁ (mtByte q) (ht.of_pulls hpulls)
  exact ⟨e₂, hmore, hlive₂, htstart.seq hsend⟩

end Sys2Proof.Machine
end


section
/-! The statements about what a command puts on the wires and about the composites, from the runs of the patterns. -/

namespace Sys2Proof.Machine

theorem Ready.opened {s : State} (h : Ready s) : s.flags.opened = true := by
  obtain ⟨-, ho, -⟩ := h
  exact ho

/-- A command issued in a state in which it may be issued is accepted. -/
theorem Ready.exec_command {s : State} (h : Ready s) {i : Instr} (hi : i.layer = .command) :
    exec i s = .next (beginCommand i (accept s)) := by
  have ⟨⟨hb, _⟩, _⟩ := h
  exact exec_command_accepts hi hb h.opened

theorem Ready.eq_of_exec_command {s t : State} (h : Ready s) {i : Instr} (hi : i.layer = .command)
    (ht : exec i s = .next t) : beginCommand i (accept s) = t := by
  rw [h.exec_command hi] at ht
  exact Host.Outcome.next.inj ht

/-! ## What is on the wires -/

theorem dataWire_released {s : State} (h : s.dat = .released) : dataWire .float s = some .high := by
  simp [dataWire, h, pullBit]

theorem dataWire_assertLow {s : State} (h : s.dat = .assertLow) (p : Pull) : dataWire p s = some .low := by
  simp [dataWire, h]

/-- Settles O30: TSTART's lines cut before and after the third and the ninth micro-operation. -/
theorem tstartMakesTheStartCondition : Obligations.TstartMakesTheStartCondition := by
  unfold Obligations.TstartMakesTheStartCondition
  intro s hr hl
  obtain ⟨e₁, -, hlive₁, hhigh⟩ := leads_lines [.exec .ckh, .exec .ws] (hr.live_accept hl) (by decide)
  obtain ⟨e₂, -, hlive₂, hfall⟩ := leads_lines [.exec .dtl] hlive₁ (by decide)
  obtain ⟨e₃, -, hlive₃, hpulse⟩ := leads_lines [.exec .ws, .exec .ckl, .exec .ws, .exec .ckh, .exec .ws] hlive₂
    (by decide)
  obtain ⟨e₄, -, -, hrise⟩ := leads_lines [.exec .dth] hlive₃ (by decide)
  have hthird := hhigh.seq hfall
  have heighth := hthird.seq hpulse
  have hninth := heighth.seq hrise
  exact ⟨_, _, _, _, _, hr.exec_command rfl, hhigh (tstartCode.drop 2), hthird (tstartCode.drop 3),
    heighth (tstartCode.drop 8), hninth (tstartCode.drop 9), rfl, rfl, rfl, rfl, fun hd => dataWire_released hd,
    fun hd => dataWire_assertLow hd _, rfl, rfl, rfl⟩

/-- Settles O33: `j` rounds of the loop, then the two halves of a data slot. -/
theorem sendByteDrivesBitsMsbFirst : Obligations.SendByteDrivesBitsMsbFirst := by
  unfold Obligations.SendByteDrivesBitsMsbFirst
  intro s t v j hr hl ht hj
  obtain rfl := hr.eq_of_exec_command rfl ht
  have htop : topBit = 7 - j + j := (Nat.sub_add_cancel hj).symm
  obtain ⟨c, d, e, -, hlive, hrounds⟩ := leads_sendRounds v j (s := setBitcnt topBit (accept s))
    { hr.live_accept hl with } htop
  obtain ⟨e₁, -, hlive₁, hlow⟩ := leads_sendSlot_low hlive v
  obtain ⟨e₂, -, -, hhigh⟩ := leads_sendSlot_high hlive₁
  have hset := hrounds.trans (hlow.append [.exec .ws, .exec .ckh, .exec .ws, .sendNext v])
  have hheld := hrounds.trans ((hlow.seq hhigh).append [.sendNext v])
  have hwires := settle_sameWires (.sendNext v :: sendTail v) (onWires .high (bitDriver (bitOf v (7 - j))) e₂ 2
    (onWires .low (bitDriver (bitOf v (7 - j))) e₁ 1 (setBitcnt (7 - j) (onWires c d e (3 * j)
      (setBitcnt topBit (accept s))))))
  exact ⟨_, _, hset (sendTail v), hheld (sendTail v), rfl, hwires.clk, rfl, hwires.dat⟩

/-- Settles O36: the eight data slots; then, with `ACK`, DATA asserted; then CLOCK raised. -/
theorem recvByteAcknowledges : Obligations.RecvByteAcknowledges := by
  unfold Obligations.RecvByteAcknowledges
  intro s t ack hr hl hd ht
  obtain rfl := hr.eq_of_exec_command rfl ht
  obtain ⟨bs, e, -, hlive, hloop, -⟩ := leads_recvLoop 7
    (s := setBitcnt topBit (setRxb 0x00 (setRxValid false (accept s)))) { hr.live_accept hl with } rfl
  cases ack with
  | true =>
    obtain ⟨e', -, -, hlines⟩ := leads_lines [.exec .dtl, .exec .ckh] hlive (by decide)
    exact ⟨_, hloop.seq hlines ((recvTail true).drop 2), rfl, rfl⟩
  | false =>
    obtain ⟨e', -, -, hlines⟩ := leads_lines [.exec .ckh] hlive (by decide)
    exact ⟨_, hloop.seq hlines ((recvTail false).drop 1), rfl, hd⟩

/-! ## Composites and their expansions -/

theorem accept_complete {s : State} (hb : s.flags.busy = true) (he : s.err = .none) :
    accept (complete s) = setPc [] s := by
  unfold accept complete setPc
  rw [← he]
  simp [← hb]

/-- A command issued after one that completed goes on as a composite does that calls both. -/
theorem exec_complete {i : Instr} {c : List Stmt} {s : State} (hi : i.layer = .command)
    (hc : ∀ t, beginCommand i t = settle c t) (hb : s.flags.busy = true) (he : s.err = .none)
    (ho : s.flags.opened = true) : exec i (complete s) = .next (settle c s) := by
  rw [exec_command_accepts (s := complete s) hi rfl ho, hc, accept_complete hb he, settle_setPc]

/-- Settles O46: both run TSTART's lines and then SEND_BYTE's; completing and accepting between them changes nothing. -/
theorem startMeasIsItsExpansion : Obligations.StartMeasIsItsExpansion := by
  unfold Obligations.StartMeasIsItsExpansion
  intro s q more hr hl ht
  obtain ⟨e₁, hpulls, hlive, htstart⟩ := leads_tstart (hr.live_accept hl)
  obtain ⟨e₂, -, -, hsend⟩ := leads_sendByte hlive (mtByte q) (ht.of_pulls hpulls)
  have hissue := exec_complete (i := .sendByte (mtByte q)) (c := [.callSendByte (mtByte q)]) rfl (fun _ => rfl)
    hlive.busy rfl hr.opened
  exact ⟨_, _, _, _, _, hr.exec_command rfl, (htstart.seq hsend).runs, hr.exec_command rfl, htstart.runs, hissue,
    hsend.runs⟩

/-- Runs from states that differ in the result flags only lead to such states. -/
theorem runs_eraseResultFlags : ∀ {n : Nat} {s s' t t' : State}, eraseResultFlags s = eraseResultFlags s' →
    Runs n s t → Runs n s' t' → eraseResultFlags t = eraseResultFlags t'
  | 0, _, _, _, _, h, hs, hs' => by
    cases hs
    cases hs'
    exact h
  | n + 1, s, s', _, _, h, ⟨r, hr, hs⟩, ⟨r', hr', hs'⟩ => by
    have hsame := noOperationReadsAResultFlag s s' h
    rw [hr, hr'] at hsame
    exact runs_eraseResultFlags hsame hs hs'

/-- Settles O47: READ clears `VAL_VALID` before START_MEAS and once more before AWAIT_READ, and no operation between
reads the flag. -/
theorem readIsItsExpansion : Obligations.ReadIsItsExpansion := by
  unfold Obligations.ReadIsItsExpansion
  intro s q k hi lo chk more hr hl hk hk' hchk ht
  have hlive := hr.live_accept hl
  obtain ⟨e, hmore, hlive₁, hstart⟩ := leads_startMeas hlive q (more := readoutTape k hi lo chk ++ more) ht
  obtain ⟨e', -, -, hstart'⟩ := leads_startMeas (s := setValValid false (accept s)) { hlive with } q
    (more := readoutTape k hi lo chk ++ more) ht
  have hflags : eraseResultFlags (settle [.callTstart, .callSendByte (mtByte q)] (accept s)) =
      eraseResultFlags (settle [.callTstart, .callSendByte (mtByte q)] (setValValid false (accept s))) := rfl
  obtain rfl : e = e' := congrArg State.env (runs_eraseResultFlags hflags hstart.runs hstart'.runs)
  obtain ⟨e₂, -, -, hawait⟩ := leads_awaitRead hlive₁ rfl hk hk' hmore hchk
  have hissue := exec_complete (i := .awaitRead) (c := [.callAwaitRead]) rfl (fun _ => rfl) hlive₁.busy rfl hr.opened
  have hcall : settle [.callAwaitRead] (measStarted q e (accept s)) =
      settle [.callAwaitRead] (measStarted q e (setValValid false (accept s))) := rfl
  have hread := runs_trans (hstart' [.callAwaitRead]) (hcall ▸ hawait.runs)
  have hcount : 71 + (2 * k + 138) = 2 * k + 209 := by omega
  rw [hcount] at hread
  exact ⟨_, _, _, _, _, hr.exec_command rfl, hread, hr.exec_command rfl, hstart.runs, hissue, hawait.runs⟩

end Sys2Proof.Machine
end


section
/-! The discipline of samples (R125 d, R258). An accepted command asks for no more than its rule does, and what a
position asks for is met again after every micro-operation and control line. -/

namespace Sys2Proof.Machine

/-- What a sample asks for: DATA released, and CLOCK HIGH, or LOW before the end of a poll attempt. -/
theorem samplesDisciplined_drd {clk : ClkDriver} {dat : DatDriver} {k : List Stmt}
    (h : samplesDisciplined clk dat (.exec .drd :: k) = true) :
    dat = .released ∧ (clk = .high ∨ clk = .low ∧ ∃ k', k = .pollNext :: k') ∧
      samplesDisciplined clk dat k = true := by
  by_cases hpoll : ∃ k', k = .pollNext :: k'
  · obtain ⟨k', rfl⟩ := hpoll
    simp only [samplesDisciplined, Bool.and_eq_true, decide_eq_true_eq] at h ⊢
    obtain ⟨⟨hdat, hclk⟩, hk⟩ := h
    exact ⟨hdat, .inr ⟨hclk, k', rfl⟩, ⟨hdat, hclk⟩, hk⟩
  · rw [samplesDisciplined] at h
    · simp only [Bool.and_eq_true, decide_eq_true_eq] at h
      obtain ⟨⟨hdat, hclk⟩, hk⟩ := h
      exact ⟨hdat, .inl hclk, hk⟩
    · exact fun k' hk' => hpoll ⟨k', hk'⟩

/-- A driver that is not known, `X`, meets no demand that another would not. -/
theorem samplesDisciplined_of_x : ∀ {k : List Stmt} {clk : ClkDriver} (dat : DatDriver),
    samplesDisciplined clk .x k = true → samplesDisciplined clk dat k = true
  | [], _, _, _ => rfl
  | st :: k, clk, dat, h => by
    cases st with
    | exec u =>
      cases u with
      | drd =>
        obtain ⟨hx, -⟩ := samplesDisciplined_drd h
        cases hx
      | dtl | dth | cls => exact h
      | _ => exact samplesDisciplined_of_x (k := k) dat h
    | recvNext | pollNext | callRecvByte | callAwaitRead => cases h
    | execDataBit | sendNext | callTstart | callSendByte | callRead => exact h
    | pulseNext =>
      simp only [samplesDisciplined, Bool.and_eq_true] at h ⊢
      exact ⟨h.1, samplesDisciplined_of_x dat h.2⟩
    | _ => exact samplesDisciplined_of_x (k := k) dat h

/-- A poll attempt asks for DATA released and CLOCK LOW, and leaves them so. -/
theorem disciplined_pollTop {k : List Stmt} {s : State} (hdat : s.dat = .released) (hclk : s.clk = .low)
    (hk : samplesDisciplined .low .released k = true) : Disciplined (pollTop k s) := by
  unfold pollTop
  split
  · rfl
  · rw [Disciplined]
    simpa [pollRound, samplesDisciplined, hdat, hclk] using hk

/-- RECV_BYTE's tail leaves CLOCK LOW and DATA released, with `ACK` and with `NACK`. -/
theorem samplesDisciplined_recvTail (ack : Bool) (k : List Stmt) :
    samplesDisciplined .low .released (recvTail ack ++ k) = samplesDisciplined .low .released k := by
  cases ack <;> rfl

/-- A round of RECV_BYTE asks for DATA released. -/
theorem disciplined_recvRound {k : List Stmt} {s : State} (hdat : s.dat = .released)
    (hk : samplesDisciplined .low .released k = true) : Disciplined (setPc (recvSlot ++ .recvNext :: k) s) := by
  rw [Disciplined]
  simpa [recvSlot, samplesDisciplined, hdat] using hk

/-- Control lines lead from a position with disciplined samples to another. -/
theorem disciplined_settle : ∀ {k : List Stmt} {s : State}, samplesDisciplined s.clk s.dat k = true →
    Disciplined (settle k s)
  | [], _, _ => rfl
  | st :: k, s, h => by
    cases st with
    | exec | execDataBit | execCupHi | execCupLo => exact h
    | sendNext v =>
      simp only [samplesDisciplined, Bool.and_eq_true, decide_eq_true_eq] at h
      obtain ⟨hclk, hk⟩ := h
      rw [settle_sendNext]
      split
      · exact disciplined_settle (samplesDisciplined_of_x s.dat hk)
      · rw [hclk] at hk
        exact hk
    | ackTest =>
      rw [settle_ackTest]
      split
      · rfl
      · exact disciplined_settle h
    | recvOr =>
      rw [settle_recvOr]
      split <;> exact disciplined_settle (k := k) h
    | recvNext =>
      simp only [samplesDisciplined, Bool.and_eq_true, decide_eq_true_eq] at h
      obtain ⟨⟨hdat, hclk⟩, hk⟩ := h
      rw [settle_recvNext]
      split
      · exact disciplined_settle hk
      · rw [hdat, hclk] at hk
        exact disciplined_recvRound hdat hk
    | pulseNext =>
      simp only [samplesDisciplined, Bool.and_eq_true, decide_eq_true_eq] at h
      obtain ⟨hclk, hk⟩ := h
      rw [settle_pulseNext]
      split
      · exact disciplined_settle hk
      · rw [hclk] at hk
        exact hk
    | pollNext =>
      simp only [samplesDisciplined, Bool.and_eq_true, decide_eq_true_eq] at h
      obtain ⟨⟨hdat, hclk⟩, hk⟩ := h
      rw [settle_pollNext]
      split
      · rw [hdat, hclk] at hk
        exact disciplined_pollTop hdat hclk hk
      · exact disciplined_settle hk
    | checksum =>
      rw [settle_checksum]
      split
      · exact disciplined_settle (s := deliverValue s) h
      · rfl
    | recvDone | hiFromRxb | loFromRxb | chkFromRxb | saveTemperature | deliverPair | markOpened =>
      exact disciplined_settle (k := k) h
    | callRecvByte ack =>
      simp only [samplesDisciplined, Bool.and_eq_true, decide_eq_true_eq] at h
      obtain ⟨hdat, hk⟩ := h
      exact disciplined_recvRound hdat ((samplesDisciplined_recvTail ack k).trans hk)
    | callAwaitRead =>
      simp only [samplesDisciplined, Bool.and_eq_true, decide_eq_true_eq] at h
      obtain ⟨⟨hdat, hclk⟩, hk⟩ := h
      exact disciplined_pollTop hdat hclk hk
    | pulseStart | callTstart | callSendByte | callRead => exact h

/-- A command begun as its rule asks has disciplined samples ahead (R258). -/
theorem disciplined_beginCommand {i : Instr} {s : State} (hi : i.layer = .command)
    (hrecv : (∃ a, i = .recvByte a) → s.dat = .released)
    (hawait : i = .awaitRead → s.dat = .released ∧ s.clk = .low) : Disciplined (beginCommand i s) := by
  cases i with
  | recvByte ack =>
    have hdat := hrecv ⟨ack, rfl⟩
    exact disciplined_settle (k := [.callRecvByte ack]) (by simp [samplesDisciplined, hdat])
  | awaitRead =>
    obtain ⟨hdat, hclk⟩ := hawait rfl
    exact disciplined_settle (k := [.callAwaitRead]) (by simp [samplesDisciplined, hdat, hclk])
  | initLines | shutdown | reset | tstart | sendByte | startMeas | read | readAll => rfl
  | crcReset | crcUpdate | crcValue | crcVerify => rfl
  | _ => cases hi

/-- A micro-operation that succeeds leaves the drivers from which the rest of the position was judged. -/
theorem samplesDisciplined_microDone {s r : State} {st : Stmt} {k : List Stmt} {u : Instr}
    (h : samplesDisciplined s.clk s.dat (st :: k) = true) (hm : Stmt.micro r st = some u) :
    samplesDisciplined (microDone u s).clk (microDone u s).dat k = true := by
  cases st with
  | exec v =>
    obtain rfl : v = u := Option.some.inj hm
    cases v with
    | drd =>
      obtain ⟨-, -, hk⟩ := samplesDisciplined_drd h
      exact hk
    | _ => exact h
  | execDataBit v =>
    obtain rfl := Option.some.inj hm
    split <;> exact samplesDisciplined_of_x _ h
  | execCupHi | execCupLo =>
    obtain rfl := Option.some.inj hm
    exact h
  | _ => cases hm

/-- A sample is a line of its own: no other line executes `DRD`. -/
theorem eq_exec_drd_of_micro {s : State} {st : Stmt} (hm : Stmt.micro s st = some .drd) : st = .exec .drd := by
  cases st with
  | exec u => rw [Option.some.inj hm]
  | execDataBit v =>
    have hbit := Option.some.inj hm
    split at hbit <;> cases hbit
  | _ => cases hm

/-- Settles O55: the start by the commands' rules, the step by its forms, the use by the demand of a sample. -/
theorem samplesAreDisciplined : Obligations.SamplesAreDisciplined := by
  unfold Obligations.SamplesAreDisciplined
  refine ⟨fun s t i hi h hrecv hawait => ?_, fun s t h hb hs => ?_, fun s r h hf => ?_⟩
  · obtain ⟨-, -, rfl⟩ := exec_command_next hi h
    exact disciplined_beginCommand (s := accept s) hi hrecv hawait
  · cases stepTo_of_step hs with
    | wait same => exact same ▸ h
    | accepted i p ws idle fetched lines after =>
      rw [hb] at idle
      cases idle
    | done st k u e busy pc micro fetched after =>
      rw [Disciplined, pc] at h
      exact after ▸ disciplined_settle (samplesDisciplined_microDone (s := setEnv e (setPc k s)) h micro)
    | failed k u p e busy after => exact after ▸ rfl
    | control busy noMicro after => exact after ▸ disciplined_settle h
  · obtain ⟨st, k, -, -, hpc, hm, -⟩ := fetch_micro hf
    obtain rfl := eq_exec_drd_of_micro hm
    rw [Disciplined, hpc] at h
    obtain ⟨hdat, hclk | ⟨hclk, k', rfl⟩, -⟩ := samplesDisciplined_drd h
    · exact ⟨hdat, .inl hclk⟩
    · exact ⟨hdat, .inr ⟨hclk, k', hpc⟩⟩

end Sys2Proof.Machine
end


section
/-! What a micro-operation answers, by the answers of its interface calls, and the statements that rest on it: the
frame, the tables of the two line drivers, and the use of the interface. -/

namespace Sys2Proof.Machine

/-! ## What a micro-operation answers -/

/-- The line a micro-operation must not find `CLOSED` is opened (R123, R124). -/
def Architected (s : State) : Instr → Prop
  | .ckl | .ckh => s.clk ≠ .closed
  | .dth | .drd => s.dat ≠ .closed
  | _ => True

section

variable {u : Instr} {s : State}

/-- A micro-operation that is not architected where it stands is refused. -/
theorem exec_not_architected (h : ¬ Architected s u) : ∃ line, exec u s = .refused (.lineClosed line) := by
  cases u with
  | ckl | ckh => exact ⟨.clock, if_pos (not_not.1 h)⟩
  | dth | drd => exact ⟨.data, if_pos (not_not.1 h)⟩
  | _ => exact absurd trivial h

/-- A micro-operation whose interface calls succeed has its effect. -/
theorem exec_micro_ok {e : Env} (hu : u.layer = .micro) (ha : Architected s u)
    (h : Env.calls (lineCalls s.dat u) s.env = (.ok, e)) : exec u s = .next (microDone u (setEnv e s)) := by
  cases u with
  | ws | wl | wp | crs | cup | cls =>
    obtain ⟨-, rfl⟩ := Prod.mk.inj h
    rfl
  | cko | dtl => exact lineAction_ok h
  | ckl | ckh | dth | drd => exact (if_neg ha).trans (lineAction_ok h)
  | _ => cases hu

/-- A micro-operation one of whose interface calls fails has the partial effect of its rule, and aborts. -/
theorem exec_micro_fail {p : Payload} {e : Env} (ha : Architected s u)
    (h : Env.calls (lineCalls s.dat u) s.env = (.fail p, e)) :
    exec u s = .next (abort (.lineIo p) (microFailed u (setEnv e s))) := by
  cases u with
  | cko | dtl => exact lineAction_fail h
  | ckl | ckh | drd => exact (if_neg ha).trans (lineAction_fail h)
  | _ => cases h

/-- A micro-operation that answers a next state, with what became of its interface calls. -/
theorem exec_micro_cases {t : State} (hu : u.layer = .micro) (h : exec u s = .next t) :
    (∃ e, Env.calls (lineCalls s.dat u) s.env = (.ok, e) ∧ t = microDone u (setEnv e s)) ∨
    ∃ p e, Env.calls (lineCalls s.dat u) s.env = (.fail p, e) ∧
      t = abort (.lineIo p) (microFailed u (setEnv e s)) := by
  have ha : Architected s u := by
    by_contra hn
    obtain ⟨line, hr⟩ := exec_not_architected hn
    rw [hr] at h
    cases h
  rcases hc : Env.calls (lineCalls s.dat u) s.env with ⟨_ | p, e⟩
  · rw [exec_micro_ok hu ha hc] at h
    exact .inl ⟨e, rfl, (Host.Outcome.next.inj h).symm⟩
  · rw [exec_micro_fail ha hc] at h
    exact .inr ⟨p, e, rfl, (Host.Outcome.next.inj h).symm⟩

/-- An architected micro-operation always answers a next state. -/
theorem exec_micro_answers (hu : u.layer = .micro) (ha : Architected s u) : ∃ t, exec u s = .next t := by
  rcases hc : Env.calls (lineCalls s.dat u) s.env with ⟨_ | p, e⟩
  · exact ⟨_, exec_micro_ok hu ha hc⟩
  · exact ⟨_, exec_micro_fail ha hc⟩

/-- A busy block executes micro-operations only. -/
theorem layer_of_exec_busy {t : State} (hb : s.flags.busy = true) (h : exec u s = .next t) : u.layer = .micro := by
  cases hl : u.layer with
  | micro => rfl
  | command =>
    obtain ⟨hidle, -⟩ := exec_command_next hl h
    rw [hb] at hidle
    cases hidle

end

/-! ## What the effect of a micro-operation leaves alone -/

section

variable {u : Instr} (s : State)

@[simp] theorem microDone_temp : (microDone u s).seq.t = s.seq.t := by cases u <;> rfl
@[simp] theorem microDone_port : (microDone u s).port = s.port := by cases u <;> rfl
@[simp] theorem microDone_script : (microDone u s).script = s.script := by cases u <;> rfl

/-- Of the data registers, only `CRC` can change. -/
theorem microDone_regs : (microDone u s).regs = { s.regs with crc := (microDone u s).regs.crc } := by
  cases u <;> rfl

/-- Of the flags, only `OPENED` can change. -/
theorem microDone_flags : (microDone u s).flags = { s.flags with opened := (microDone u s).flags.opened } := by
  cases u <;> rfl

theorem microDone_clk : (microDone u s).clk = s.clk ∨ u ∈ [Instr.cko, .ckl, .ckh, .cls] := by
  cases u with
  | cko | ckl | ckh | cls => exact .inr (by decide)
  | _ => exact .inl rfl

theorem microDone_dat : (microDone u s).dat = s.dat ∨ u ∈ [Instr.dtl, .dth, .cls] := by
  cases u with
  | dtl | dth | cls => exact .inr (by decide)
  | _ => exact .inl rfl

theorem microDone_delays : (microDone u s).delays = s.delays ∨ u ∈ [Instr.ws, .wl, .wp] := by
  cases u with
  | ws | wl | wp => exact .inr (by decide)
  | _ => exact .inl rfl

/-- Only a sample uses up what pulls DATA. -/
theorem microDone_sample :
    ((microDone u s).env.pulls = s.env.pulls ∧ (microDone u s).seq.d = s.seq.d) ∨ u = .drd := by
  cases u with
  | drd => exact .inr rfl
  | _ => exact .inl ⟨rfl, rfl⟩

/-- A failed micro-operation touches its own line alone. -/
theorem microFailed_eq : microFailed u s =
    { s with
      clk := if u ∈ [Instr.cko, .ckl, .ckh] then .x else s.clk
      dat := if u = .dtl then .x else s.dat } := by
  cases u <;> rfl

end

/-! ## The frame -/

/-- Settles O18: a micro-operation that succeeded changes what its effect changes; one that failed, its line and what
the abort writes. -/
theorem microOpFrame : Obligations.MicroOpFrame := by
  unfold Obligations.MicroOpFrame
  intro u s t hu h
  have pulls {a : Answer} {e : Env} (hc : Env.calls (lineCalls s.dat u) s.env = (a, e)) : e.pulls = s.env.pulls := by
    simpa [hc] using Env.calls_pulls (lineCalls s.dat u) s.env
  rcases exec_micro_cases hu h with ⟨e, hc, rfl⟩ | ⟨p, e, hc, rfl⟩
  · have hsample := microDone_sample (u := u) (setEnv e s)
    rw [setEnv_env, pulls hc] at hsample
    have hcrc : (microDone u (setEnv e s)).regs.crc = s.regs.crc ∨ u = .crs ∨ ∃ v, u = .cup v := by
      by_cases hw : u = .crs ∨ ∃ v, u = .cup v
      · exact .inr hw
      · obtain ⟨hcrs, hcup⟩ := not_or.1 hw
        exact .inl (microDone_crc hcrs (not_exists.1 hcup) _)
    have hopened : (microDone u (setEnv e s)).flags.opened = s.flags.opened ∨ u = .cls :=
      or_iff_not_imp_right.2 fun hcls => microDone_opened hcls _
    have hflags := microDone_flags (u := u) (setEnv e s)
    have hcrcOk : (microDone u (setEnv e s)).flags.crcOk = s.flags.crcOk := by rw [hflags]; rfl
    exact ⟨microDone_cnt _ _, microDone_temp _, microDone_port _, microDone_script _, microDone_regs _, hcrc, hopened,
      hcrcOk, microDone_clk _, microDone_dat _, microDone_delays _, hsample,
      .inl ⟨microDone_pc _ _, microDone_err _ _, microDone_errInfo _ _, hflags⟩⟩
  · rw [microFailed_eq]
    refine ⟨rfl, rfl, rfl, rfl, rfl, .inl rfl, .inl rfl, rfl, ?clk, ?dat, .inl rfl, .inl ⟨pulls hc, rfl⟩,
      .inr ⟨rfl, rfl, rfl⟩⟩
    case clk =>
      by_cases hclk : u ∈ [Instr.cko, .ckl, .ckh]
      · exact .inr (List.mem_append_left [Instr.cls] hclk)
      · exact .inl (if_neg hclk)
    case dat =>
      by_cases hdat : u = .dtl
      · exact .inr (hdat ▸ List.mem_cons_self)
      · exact .inl (if_neg hdat)

/-- CLOCK's driver is left alone by all but its own micro-operations. -/
theorem clk_of_exec {u : Instr} {s t : State} (hu : u.layer = .micro) (h : exec u s = .next t) :
    t.clk = s.clk ∨ u ∈ [Instr.cko, .ckl, .ckh, .cls] := by
  obtain ⟨-, -, -, -, -, -, -, -, hclk, -⟩ := microOpFrame u s t hu h
  exact hclk

/-- DATA's driver is left alone by all but its own micro-operations. -/
theorem dat_of_exec {u : Instr} {s t : State} (hu : u.layer = .micro) (h : exec u s = .next t) :
    t.dat = s.dat ∨ u ∈ [Instr.dtl, .dth, .cls] := by
  obtain ⟨-, -, -, -, -, -, -, -, -, hdat, -⟩ := microOpFrame u s t hu h
  exact hdat

/-! ## The line drivers' tables -/

/-- Settles O11, by computation. -/
theorem delaysChangeNoState : Obligations.DelaysChangeNoState := fun _ => ⟨rfl, rfl, rfl⟩

/-- Settles O15, by computation: neither close can fail. -/
theorem closeNeverFails : Obligations.CloseNeverFails := fun _ => rfl

/-- Settles O12: the rows by the answer of the one call each makes, the rest by the frame. -/
theorem clockDriverTable : Obligations.ClockDriverTable := by
  unfold Obligations.ClockDriverTable
  intro s e p
  refine ⟨fun h => ?cko, fun h => ?ckoFails, fun hc => ⟨if_pos hc, if_pos hc⟩, fun hc h => ⟨?ckl, ?ckh⟩,
    fun hc h => ⟨?cklFails, ?ckhFails⟩, ⟨_, closeNeverFails s, rfl⟩, fun u t h hu => ?others⟩
  case cko => exact exec_micro_ok (u := .cko) rfl trivial ((calls_cko _ _).trans h)
  case ckoFails => exact exec_micro_fail (u := .cko) trivial ((calls_cko _ _).trans h)
  case ckl => exact exec_micro_ok (u := .ckl) rfl hc ((calls_ckl _ _).trans h)
  case ckh => exact exec_micro_ok (u := .ckh) rfl hc ((calls_ckh _ _).trans h)
  case cklFails => exact exec_micro_fail (u := .ckl) hc ((calls_ckl _ _).trans h)
  case ckhFails => exact exec_micro_fail (u := .ckh) hc ((calls_ckh _ _).trans h)
  case others =>
    have hlist : ∀ u ∈ [Instr.ws, .wl, .wp, .dtl, .dth, .drd, .crs],
        u.layer = .micro ∧ u ∉ [Instr.cko, .ckl, .ckh, .cls] := by decide
    have ⟨hmicro, hclk⟩ : u.layer = .micro ∧ u ∉ [Instr.cko, .ckl, .ckh, .cls] := by
      rcases hu with hu | ⟨v, rfl⟩
      · exact hlist u hu
      · exact ⟨rfl, by simp⟩
    exact (clk_of_exec hmicro h).resolve_right hclk

/-- Settles O13: the rows by the answers of the calls each makes, two for a DTL from `CLOSED`; the rest by the frame. -/
theorem dataDriverTable : Obligations.DataDriverTable := by
  unfold Obligations.DataDriverTable
  intro s e e' p
  refine ⟨fun hd h => ?dtl, fun hd h h' => ?dtlOpens, fun h => ?openOrWriteFails, fun hd h h' => ?writeFails,
    fun hd => ?dth, fun hd => ⟨if_pos hd, if_pos hd⟩, fun t h => ?drd, ⟨_, closeNeverFails s, rfl⟩,
    fun u t h hu => ?others⟩
  case dtl => exact exec_micro_ok (u := .dtl) rfl trivial ((calls_dtl hd _).trans h)
  case dtlOpens => exact exec_micro_ok (u := .dtl) rfl trivial ((hd ▸ calls_dtl_closed h).trans h')
  case openOrWriteFails =>
    by_cases hd : s.dat = .closed
    · exact exec_micro_fail (u := .dtl) trivial (hd ▸ calls_dtl_closed_fail h)
    · exact exec_micro_fail (u := .dtl) trivial ((calls_dtl hd _).trans h)
  case writeFails => exact exec_micro_fail (u := .dtl) trivial ((hd ▸ calls_dtl_closed h).trans h')
  case dth => exact exec_micro_ok (u := .dth) rfl hd (calls_dth _ _)
  case drd => exact (dat_of_exec rfl h).resolve_right (by decide)
  case others =>
    have hlist : ∀ u ∈ [Instr.ws, .wl, .wp, .cko, .ckl, .ckh],
        u.layer = .micro ∧ u ∉ [Instr.dtl, .dth, .cls] := by decide
    obtain ⟨hmicro, hdat⟩ := hlist u hu
    exact (dat_of_exec hmicro h).resolve_right hdat

/-- Settles O14, by the answer of the `read`, and by what `sample` takes from the environment. -/
theorem sampleReadsTheLine : Obligations.SampleReadsTheLine := by
  unfold Obligations.SampleReadsTheLine
  intro s e e' pull p hd
  refine ⟨fun h hp => ?_, fun h => exec_micro_fail (u := .drd) hd ((calls_drd _ _).trans h)⟩
  have hexec : exec .drd s = .next (sample (setEnv e s)) := exec_micro_ok rfl hd ((calls_drd _ _).trans h)
  have hsample : sample (setEnv e s) = { s with
      env := e'
      seq := { s.seq with d := if s.dat = .released then pullBit pull else Config.freeBit e.draws } } := by
    simp only [sample, setEnv_env, hp]
    rfl
  rw [hexec, hsample]
  refine ⟨fun hr => ?_, fun _ => ⟨_, rfl⟩⟩
  have hbit : pullBit pull = decide (pull = .float) := by cases pull <;> rfl
  rw [if_pos hr, hbit]

/-! ## How the interface is used -/

/-- Settles O17, call by call. -/
theorem interfaceIsUsedOpenDrain : Obligations.InterfaceIsUsedOpenDrain := by
  unfold Obligations.InterfaceIsUsedOpenDrain
  intro u dat
  cases u with
  | dtl => by_cases hd : dat = .closed <;> simp [lineCalls, LineCall.fallible, hd]
  | cko | ckl | ckh | dth | drd | cls => simp [lineCalls, LineCall.fallible]
  | _ => simp [lineCalls]

end Sys2Proof.Machine
end


section
/-! The statements about the step of a micro-operation: a failed interface call ends the command, the lines move by
their own micro-operations alone, and a command under way is never refused. -/

namespace Sys2Proof.Machine

/-- Settles O20: the micro-operation aborts, and no control line runs after an abort. -/
theorem failedLineOperationEndsTheCommand : Obligations.FailedLineOperationEndsTheCommand := by
  unfold Obligations.FailedLineOperationEndsTheCommand
  intro s r u p e hf hc hclk hdat
  obtain ⟨st, k, -, -, -, -, rfl⟩ := fetch_micro hf
  have ha : Architected (setPc k s) u := by
    cases u with
    | ckl => exact hclk (.inl rfl)
    | ckh => exact hclk (.inr rfl)
    | drd => exact hdat rfl
    | dth => cases hc
    | _ => trivial
  have hexec := exec_micro_fail (s := setPc k s) ha hc
  calc step s
    _ = resume (exec u (setPc k s)) := by rw [step, hf]
    _ = .next (abort (.lineIo p) (microFailed u (setEnv e (setPc k s)))) := by rw [hexec, resume_abort]
    _ = _ := by rw [microFailed_eq]; rfl

/-- The control lines after a micro-operation, or after its abort, move no line. -/
theorem resume_sameWires {s t : State} (h : resume (.next s) = .next t) : SameWires s t := by
  obtain rfl := Host.Outcome.next.inj h
  split
  · exact settle_sameWires _ s
  · exact .refl s

/-- Acceptance moves no line. -/
theorem beginCommand_lines (i : Instr) (s : State) :
    (beginCommand i s).clk = s.clk ∧ (beginCommand i s).dat = s.dat := by
  cases i with
  | awaitRead =>
    have h := pollTop_sameWires readout (setCnt { s.cnt with attempt := 0 } (setValValid false s))
    exact ⟨h.clk, h.dat⟩
  | _ => exact ⟨rfl, rfl⟩

/-- Settles O49: of the forms of a step only a micro-operation moves a line, and by the frame only its own. -/
theorem linesMoveOnlyByTheirMicroOps : Obligations.LinesMoveOnlyByTheirMicroOps := by
  unfold Obligations.LinesMoveOnlyByTheirMicroOps
  intro s t h
  rcases step_cases s with ⟨-, -, -, hs⟩ | ⟨_, -, hs⟩ | ⟨i, r, hf, hs⟩ | ⟨u, r, hf, hs⟩ | ⟨hf, hs⟩ <;> rw [hs] at h
  · obtain rfl := Host.Outcome.next.inj h
    exact ⟨.inl rfl, .inl rfl⟩
  · cases h
  · obtain ⟨-, hi, p, ws, rfl⟩ := fetch_command hf
    obtain ⟨-, -, rfl⟩ := exec_command_next hi h
    obtain ⟨hclk, hdat⟩ := beginCommand_lines i (accept { s with port := p, script := ws })
    exact ⟨.inl hclk, .inl hdat⟩
  · obtain ⟨st, k, hb, -, -, -, rfl⟩ := fetch_micro hf
    cases hx : exec u (setPc k s) with
    | fault | refused => rw [hx] at h; cases h
    | next r =>
      have hu := layer_of_exec_busy (s := setPc k s) hb hx
      rw [hx] at h
      have hrest := resume_sameWires h
      rw [hrest.clk, hrest.dat]
      exact ⟨(clk_of_exec hu hx).imp_right fun hm => ⟨u, _, hf, hm⟩,
        (dat_of_exec hu hx).imp_right fun hm => ⟨u, _, hf, hm⟩⟩
  · obtain rfl := Host.Outcome.next.inj h
    have hw := settle_sameWires s.seq.pc s
    exact ⟨.inl hw.clk, .inl hw.dat⟩

/-- A well-formed line executes no command. -/
theorem layer_of_wellFormed {s : State} {st : Stmt} {u : Instr} (hw : st.wellFormed = true)
    (hm : Stmt.micro s st = some u) : u.layer = .micro := by
  cases st with
  | exec v =>
    obtain rfl : v = u := Option.some.inj hm
    exact of_decide_eq_true hw
  | execDataBit v =>
    obtain rfl := Option.some.inj hm
    split <;> rfl
  | execCupHi | execCupLo =>
    obtain rfl := Option.some.inj hm
    rfl
  | _ => cases hm

section

variable {s : State} {st : Stmt} {k : List Stmt} {u : Instr} (h : Inv s) (hpc : s.seq.pc = st :: k)
  (hm : Stmt.micro s st = some u)
include h hpc hm

/-- In an invariant state the line at the head of the position executes a micro-operation. -/
theorem Inv.layer_of_micro : u.layer = .micro := by
  have hp := h.position
  rw [hpc, pcWellFormed, Bool.and_eq_true, Bool.and_eq_true] at hp
  obtain ⟨⟨-, hw⟩, -⟩ := hp
  exact layer_of_wellFormed hw hm

/-- In an invariant state the micro-operation at the head of the position finds its line opened. -/
theorem Inv.architected : Architected s u := by
  have hpos := position_of_positionLegal h.legal
  rw [hpc] at hpos
  cases hpos with
  | initWl | initCko | initDtl | shutdown =>
    cases hm
    trivial
  | initCkl _ hc =>
    cases hm
    exact hc
  | transaction _ ho =>
    obtain ⟨hclk, hdat⟩ := h.opened_lines ho
    cases u with
    | ckl | ckh => exact hclk
    | dth | drd => exact hdat
    | _ => trivial

end

/-- Settles O53: the micro-operation at the head of the position is architected, and what it answers is resumed. -/
theorem acceptedCommandIsNeverRefused : Obligations.AcceptedCommandIsNeverRefused := by
  unfold Obligations.AcceptedCommandIsNeverRefused
  intro s h hb hp
  obtain ⟨st, k, hpc⟩ := List.exists_cons_of_ne_nil (h.busy_iff.1 hb)
  obtain ⟨u, hm⟩ : ∃ u, Stmt.micro s st = some u := by
    cases hm : Stmt.micro s st with
    | some u => exact ⟨u, rfl⟩
    | none =>
      have hmicro := h.head_isMicro hpc
      rw [isMicro_of_micro_eq_none hm] at hmicro
      cases hmicro
  obtain ⟨t, ht⟩ := exec_micro_answers (s := setPc k s) (h.layer_of_micro hpc hm) (h.architected hpc hm)
  rw [step_micro hb hp hpc hm, ht]
  exact ⟨_, rfl⟩

end Sys2Proof.Machine
end



section
/-! The accumulator's functions (41_crc.md section 1): the bit step is linear over XOR, a simulation relates D00's wide
loop to the register's, and the mirror is given bit by bit. -/

namespace Sys2Proof.Machine

/-! ## The bit step -/

/-- Truncating to a byte commutes with D00's untruncated shift. -/
theorem ofNat_shiftLeft_one (n : Nat) : BitVec.ofNat 8 (n <<< 1) = BitVec.ofNat 8 n <<< 1 := by
  apply BitVec.eq_of_toNat_eq
  simp only [BitVec.toNat_ofNat, BitVec.toNat_shiftLeft, Nat.shiftLeft_eq]
  omega

/-- The bit step as one XOR: the shifted accumulator, and the polynomial where the feedback bit is set. -/
theorem crcBit_eq_xor (a : Byte) (b : Bool) :
    crcBit a b = a <<< 1 ^^^ (if a.getLsbD 7 ^^ b then Config.crcPoly else 0) := by
  unfold crcBit
  split
  · rfl
  · exact BitVec.xor_zero.symm

/-- Settles O5: the truncated shift is doubling modulo 256, and the feedback bit is set where the two bits differ. -/
theorem crcBitShiftsAndXors : Obligations.CrcBitShiftsAndXors := by
  unfold Obligations.CrcBitShiftsAndXors
  intro a b
  have hdouble : BitVec.ofNat 8 (2 * a.toNat) = a <<< 1 := by
    rw [Nat.mul_comm, ← Nat.shiftLeft_eq a.toNat 1, ofNat_shiftLeft_one, BitVec.ofNat_toNat, BitVec.setWidth_eq]
  rw [hdouble, crcBit]
  cases a.getLsbD 7 <;> cases b <;> rfl

/-- The bit step is linear over XOR in the pair of accumulator and data bit (R148). -/
theorem crcBit_xor (a a' : Byte) (b b' : Bool) : crcBit (a ^^^ a') (b ^^ b') = crcBit a b ^^^ crcBit a' b' := by
  have hfeedback : ∀ p q : Bool, (if p ^^ q then Config.crcPoly else 0) =
      (if p then Config.crcPoly else 0) ^^^ (if q then Config.crcPoly else 0) := by decide
  have hswap : ∀ p q c d : Bool, ((p ^^ q) ^^ (c ^^ d)) = ((p ^^ c) ^^ (q ^^ d)) := by decide
  simp only [crcBit_eq_xor, BitVec.getLsbD_xor, hswap, hfeedback, BitVec.shiftLeft_xor_distrib]
  ac_rfl

/-- An accumulator fed its own top bit is shifted and no more. -/
theorem crcBit_self (a : Byte) : crcBit a (a.getLsbD 7) = a <<< 1 := by
  simp [crcBit]

/-! ## The byte step -/

/-- The accumulator after the first `k` bits of a byte, fed from bit 7 downwards (R141). -/
def crcFeed (a v : Byte) : Nat → Byte
  | 0 => a
  | k + 1 => crcBit (crcFeed a v k) (v.getLsbD (7 - k))

theorem crcUpdate_eq_crcFeed (a v : Byte) : crcUpdate a v = crcFeed a v 8 := rfl

/-- Feeding bits is linear over XOR in the pair of accumulator and byte, as each bit step is. -/
theorem crcFeed_xor (a a' v v' : Byte) (k : Nat) :
    crcFeed (a ^^^ a') (v ^^^ v') k = crcFeed a v k ^^^ crcFeed a' v' k := by
  induction k with
  | zero => rfl
  | succ k ih => rw [crcFeed, ih, BitVec.getLsbD_xor, crcBit_xor, crcFeed, crcFeed]

/-- The bit that `k` shifts bring to the top of a byte. -/
theorem getLsbD_shiftLeft_top (v : Byte) {k : Nat} (hk : k < 8) : (v <<< k).getLsbD 7 = v.getLsbD (7 - k) := by
  have hlow : ¬ 7 < k := by omega
  simp only [BitVec.getLsbD_shiftLeft, hlow, decide_false, Bool.not_false, Nat.reduceLT, decide_true, Bool.true_and]

/-- An accumulator fed its own bits only shifts: each round meets the bit that stands at the top. -/
theorem crcFeed_self (a : Byte) (k : Nat) (hk : k ≤ 8) : crcFeed a a k = a <<< k := by
  induction k with
  | zero => exact (BitVec.shiftLeft_zero a).symm
  | succ k ih =>
    rw [crcFeed, ih (Nat.le_of_lt hk), ← getLsbD_shiftLeft_top a hk, crcBit_self, BitVec.shiftLeft_add]

/-- A byte fed to itself is shifted out (R148). -/
theorem crcUpdate_self (a : Byte) : crcUpdate a a = 0x00 := by
  rw [crcUpdate_eq_crcFeed, crcFeed_self a 8 (Nat.le_refl 8)]
  exact BitVec.shiftLeft_eq_zero (Nat.le_refl 8)

/-- A byte acts on an accumulator as their XOR acts on zero (R148): by linearity the two differ by the accumulator fed
to itself. -/
theorem crcUpdate_eq_table (a v : Byte) : crcUpdate a v = crcUpdate 0x00 (a ^^^ v) := by
  have hacc : (0x00 : Byte) ^^^ a = a := BitVec.zero_xor
  have hbyte : (a ^^^ v) ^^^ a = v := by rw [BitVec.xor_comm a v, BitVec.xor_assoc, BitVec.xor_self, BitVec.xor_zero]
  calc crcUpdate a v
    _ = crcUpdate (0x00 ^^^ a) ((a ^^^ v) ^^^ a) := by rw [hacc, hbyte]
    _ = crcUpdate 0x00 (a ^^^ v) ^^^ crcUpdate a a := crcFeed_xor 0x00 a (a ^^^ v) a 8
    _ = crcUpdate 0x00 (a ^^^ v) := by rw [crcUpdate_self]; exact BitVec.xor_zero

/-- Settles O8: the byte step is linear, and a byte fed to itself leaves nothing. -/
theorem crcUpdateIsTableLookup : Obligations.CrcUpdateIsTableLookup := by
  unfold Obligations.CrcUpdateIsTableLookup
  exact ⟨crcUpdate_eq_table, crcUpdate_self, by decide⟩

/-! ## D00's wide loop -/

/-- A round of D00's loop on byte-wide registers: the bit step with the bit at the top of the byte, which then moves
up. -/
def registerRound (q : Byte × Byte) : Byte × Byte := (crcBit q.1 (q.2.getLsbD 7), q.2 <<< 1)

/-- The byte-wide registers that D00's two wide integers stand for. -/
def truncated (p : Nat × Nat) : Byte × Byte := (BitVec.ofNat 8 p.1, BitVec.ofNat 8 p.2)

/-- The bits of the wide integers above bit 7 are never looked at and never move down (R141). -/
theorem truncated_softwareRound : Function.Semiconj truncated softwareRound registerRound := by
  rintro ⟨n, m⟩
  have hbit : ((BitVec.ofNat 8 n).getLsbD 7 ^^ (BitVec.ofNat 8 m).getLsbD 7) = (n ^^^ m).testBit 7 := by
    simp only [BitVec.getLsbD_ofNat, Nat.testBit_xor, Nat.reduceLT, decide_true, Bool.true_and]
  refine Prod.ext ?accumulator (ofNat_shiftLeft_one m)
  case accumulator =>
    simp only [truncated, softwareRound, registerRound, crcBit, hbit]
    split
    · rw [BitVec.ofNat_xor, ofNat_shiftLeft_one, BitVec.ofNat_toNat, BitVec.setWidth_eq]
    · exact ofNat_shiftLeft_one n

/-- Rounds on the registers feed the bits of the byte from 7 downwards. -/
theorem registerRound_iterate (a v : Byte) (k : Nat) (hk : k ≤ 8) :
    registerRound^[k] (a, v) = (crcFeed a v k, v <<< k) := by
  induction k with
  | zero => exact Prod.ext rfl (BitVec.shiftLeft_zero v).symm
  | succ k ih =>
    rw [Function.iterate_succ_apply', ih (Nat.le_of_lt hk), registerRound, getLsbD_shiftLeft_top v hk, crcFeed,
      BitVec.shiftLeft_add]

/-- D00's wording of `update` and the register's agree (R141). -/
theorem softwareCrcUpdate_eq (a v : Byte) : softwareCrcUpdate a v = crcUpdate a v :=
  calc softwareCrcUpdate a v
    _ = (truncated (softwareRound^[8] (a.toNat, v.toNat))).1 := by
      rw [softwareCrcUpdate, BitVec.ofNat_and]
      exact BitVec.and_allOnes
    _ = (registerRound^[8] (truncated (a.toNat, v.toNat))).1 := by rw [truncated_softwareRound.iterate_right 8]
    _ = (registerRound^[8] (a, v)).1 := by simp only [truncated, BitVec.ofNat_toNat, BitVec.setWidth_eq]
    _ = crcUpdate a v := congrArg Prod.fst (registerRound_iterate a v 8 (Nat.le_refl 8))

/-- Settles O6: truncating the wide integers turns each round into the register's. -/
theorem softwareLoopAgreesWithRegister : Obligations.SoftwareLoopAgreesWithRegister := by
  unfold Obligations.SoftwareLoopAgreesWithRegister
  exact fun a v => ⟨rfl, softwareCrcUpdate_eq a v⟩

/-! ## The mirror -/

theorem mirror8_getLsbD (v : Byte) {i : Nat} (hi : i ≤ 7) : (mirror8 v).getLsbD i = v.getLsbD (7 - i) := by
  rw [mirror8, BitVec.getLsbD_ofBoolListBE]
  interval_cases i <;> rfl

theorem mirror8_mirror8 (v : Byte) : mirror8 (mirror8 v) = v := by
  refine BitVec.eq_of_getLsbD_eq fun i hi => ?_
  rw [mirror8_getLsbD _ (by omega), mirror8_getLsbD _ (by omega), show 7 - (7 - i) = i by omega]

/-- Settles O7: bit by bit, and the inverse from that. -/
theorem mirrorReversesBits : Obligations.MirrorReversesBits := by
  unfold Obligations.MirrorReversesBits
  exact ⟨fun v _ hi => mirror8_getLsbD v hi, mirror8_mirror8, by decide⟩

end Sys2Proof.Machine
end


section
/-! The accumulator's instructions (41_crc.md section 2): the commands and micro-operations that write `CRC` or compare
with it, and a script of commands that accumulates bytes. -/

namespace Sys2Proof.Machine

/-- An idle block accepts every command that does not need the lines opened (R238 b). -/
theorem exec_command_idle {i : Instr} {s : State} (hi : i.layer = .command) (hn : Instr.needsLines i = false)
    (hb : s.flags.busy = false) : exec i s = .next (beginCommand i (accept s)) := by
  rw [exec_command hi]
  simp [hn, startCommand, hb]

/-- A command that completes as it is accepted leaves `BUSY` as an idle block has it. -/
theorem complete_accept {s : State} (hb : s.flags.busy = false) :
    complete (accept s) = { s with err := .none, seq := { s.seq with pc := [] } } := by
  have hflags : { s.flags with busy := false } = s.flags := by rw [← hb]
  exact congrArg (fun f => ({ s with flags := f, err := .none, seq := { s.seq with pc := [] } } : State)) hflags

/-- Settles O10: each is accepted, and completes with its effect in the same step. -/
theorem crcCommandsComplete : Obligations.CrcCommandsComplete := by
  unfold Obligations.CrcCommandsComplete
  intro s v hb
  have hdone := complete_accept hb
  refine ⟨?reset, ?update, ?value, ?verify⟩
  case reset => exact (exec_command_idle rfl rfl hb).trans (congrArg (Host.Outcome.next ∘ setCrc 0x00) hdone)
  case update =>
    exact (exec_command_idle rfl rfl hb).trans
      (congrArg (Host.Outcome.next ∘ setCrc (crcUpdate s.regs.crc v)) hdone)
  case value => exact (exec_command_idle rfl rfl hb).trans (congrArg Host.Outcome.next hdone)
  case verify =>
    exact (exec_command_idle rfl rfl hb).trans
      (congrArg (Host.Outcome.next ∘ setCrcOk (checksumMatches v s)) hdone)

/-- Settles O16, by computation: neither makes an interface call. -/
theorem accumulatorMicroOps : Obligations.AccumulatorMicroOps := fun _ _ => ⟨rfl, rfl⟩

/-! ## A script of CRC commands -/

/-- An idle block takes the command the host presents next. -/
theorem step_of_script {s : State} {i : Instr} {w : Half} {ws : List Half} (hi : Idle s) (hs : s.script = w :: ws)
    (hw : encode i = .command w) : step s = exec i { s with script := ws } := by
  obtain ⟨hb, hp⟩ := hi
  have hd : decodeWord w = .ok i := by
    have h := decodeOfEncode i
    rwa [hw] at h
  obtain ⟨-, hscript, -⟩ := stepRunsTheDecodedInstruction s i
  exact hscript w ws hb hp hs hd

/-- CRC_RESET presented to an idle block is done in one step, and the block is idle again. -/
theorem step_crcReset {s : State} {ws : List Half} (hi : Idle s) (hs : s.script = commandWord 0x10 0x00 :: ws) :
    ∃ t, step s = .next t ∧ Idle t ∧ t.script = ws ∧ t.regs = { s.regs with crc := 0x00 } := by
  obtain ⟨hreset, -⟩ := crcCommandsComplete { s with script := ws } 0x00 hi.1
  exact ⟨_, (step_of_script (i := .crcReset) hi hs rfl).trans hreset, hi, rfl, rfl⟩

/-- CRC_UPDATE presented to an idle block is done in one step, and the block is idle again. -/
theorem step_crcUpdate {s : State} {v : Byte} {ws : List Half} (hi : Idle s)
    (hs : s.script = commandWord 0x11 v :: ws) :
    ∃ t, step s = .next t ∧ Idle t ∧ t.script = ws ∧ t.regs = { s.regs with crc := crcUpdate s.regs.crc v } := by
  obtain ⟨-, hupdate, -⟩ := crcCommandsComplete { s with script := ws } v hi.1
  exact ⟨_, (step_of_script (i := .crcUpdate v) hi hs rfl).trans hupdate, hi, rfl, rfl⟩

/-- Presenting CRC_UPDATE for each byte folds the byte step over the bytes, from where the accumulator stands. -/
theorem runs_crcUpdates (bytes : List Byte) {s : State} (hi : Idle s)
    (hs : s.script = bytes.map (fun v => commandWord 0x11 v)) :
    ∃ u, Runs bytes.length s u ∧ Idle u ∧ u.script = [] ∧
      u.regs = { s.regs with crc := bytes.foldl crcUpdate s.regs.crc } := by
  induction bytes generalizing s with
  | nil => exact ⟨s, rfl, hi, hs, rfl⟩
  | cons v bytes ih =>
    obtain ⟨t, hstep, hidle, hrest, hregs⟩ := step_crcUpdate hi hs
    obtain ⟨u, hruns, hu⟩ := ih hidle hrest
    rw [hregs] at hu
    exact ⟨u, runs_succ hstep hruns, hu⟩

/-- Settles O9: CRC_RESET starts the fold at zero, and each byte step is the table's. -/
theorem accumulatingFoldsTheBytes : Obligations.AccumulatingFoldsTheBytes := by
  unfold Obligations.AccumulatingFoldsTheBytes
  intro s bytes hi hs
  obtain ⟨t, hstep, hidle, hrest, hreset⟩ := step_crcReset hi hs
  obtain ⟨u, hruns, ⟨hbusy, -⟩, hscript, hregs⟩ := runs_crcUpdates bytes hidle hrest
  rw [hreset] at hregs
  have htable : crcUpdate = fun a v => crcUpdate 0x00 (a ^^^ v) := funext₂ crcUpdate_eq_table
  exact ⟨u, runs_succ hstep hruns, hbusy, hscript, hregs, by rw [crcValue, hregs, ← htable]⟩

end Sys2Proof.Machine
end

section
/-! Commands run to their end (42_protocol_engine.md): INITIALIZE and SHUTDOWN, whose lines need not be opened, and the
end states of the commands whose runs stand above. -/

namespace Sys2Proof.Machine

/-! ## The end of a command, seen from its acceptance -/

/-- An error of a command, in terms of the state the command was accepted in. -/
theorem abort_accept {s : State} (hb : s.flags.busy = false) (r : Raised) :
    abort r (accept s) = { s with
      flags := { s.flags with rxValid := false, valValid := false, pairValid := false }
      err := r.kind
      errInfo := r.info s.errInfo
      seq := { s.seq with pc := [] } } := by
  have hflags : abort r (accept s) = abort r (complete (accept s)) := rfl
  rw [hflags, complete_accept hb]
  simp [abort, hb]

/-- `n` micro-operations of the lines `c` end the command in `u`, whatever the caller would run afterwards. -/
def Ends (n : Nat) (c : List Stmt) (s u : State) : Prop := ∀ k, Runs n (settle (c ++ k) s) u

theorem Leads.ends {m n : Nat} {c d : List Stmt} {s t u : State} (h : Leads m c s d t) (g : Ends n d t u) :
    Ends (m + n) c s u := fun k => runs_trans (h k) (g k)

theorem Ends.append {n : Nat} {c : List Stmt} {s u : State} (h : Ends n c s u) (d : List Stmt) :
    Ends n (c ++ d) s u := fun k => by
  rw [List.append_assoc]
  exact h (d ++ k)

/-- A pattern run to its end, then one that ends the command. -/
theorem Leads.seq_ends {m n : Nat} {c c' : List Stmt} {s t u : State} (h : Leads m c s [] t) (g : Ends n c' t u) :
    Ends (m + n) (c ++ c') s u := (h.append c').ends g

theorem Ends.runs {n : Nat} {c : List Stmt} {s u : State} (h : Ends n c s u) : Runs n (settle c s) u := by
  simpa using h []

/-! ## One micro-operation, its lines opened or not -/

theorem microDone_setPc (u : Instr) (k : List Stmt) (s : State) :
    microDone u (setPc k s) = setPc k (microDone u s) := by cases u <;> rfl

theorem abort_microFailed_setPc (r : Raised) (u : Instr) (k : List Stmt) (s : State) :
    abort r (microFailed u (setPc k s)) = abort r (microFailed u s) := by cases u <;> rfl

section

variable {s : State} {u : Instr} {e : Env} (hb : s.flags.busy = true) (hp : s.port = none) (ha : Architected s u)
include hb hp ha

/-- A micro-operation whose interface calls succeed. -/
theorem leads_micro (hu : u.layer = .micro) (hc : Env.calls (lineCalls s.dat u) s.env = (.ok, e)) :
    Leads 1 [.exec u] s [] (microDone u (setEnv e s)) := fun k => runs_one <| by
  calc step (setPc (.exec u :: k) s)
    _ = .next (settle k (microDone u (setPc k (setEnv e s)))) :=
      step_of_exec (s := setPc (.exec u :: k) s) hb hp rfl rfl (exec_micro_ok (s := setPc k s) hu ha hc)
        (by simpa using hb) (by simp)
    _ = .next (settle k (microDone u (setEnv e s))) := by rw [microDone_setPc, settle_setPc]

/-- A micro-operation one of whose interface calls fails. -/
theorem ends_micro {p : Payload} (hc : Env.calls (lineCalls s.dat u) s.env = (.fail p, e)) :
    Ends 1 [.exec u] s (abort (.lineIo p) (microFailed u (setEnv e s))) := fun k => runs_one <| by
  calc step (setPc (.exec u :: k) s)
    _ = resume (exec u (setPc k s)) := step_micro (s := setPc (.exec u :: k) s) hb hp rfl rfl
    _ = .next (abort (.lineIo p) (microFailed u (setPc k (setEnv e s)))) := by
      rw [exec_micro_fail (s := setPc k s) ha hc, resume_abort]
      rfl
    _ = .next (abort (.lineIo p) (microFailed u (setEnv e s))) := by rw [abort_microFailed_setPc]

end

/-! ## SHUTDOWN -/

/-- Settles O27: the one micro-operation makes no call that can fail. -/
theorem shutdownCompletes : Obligations.ShutdownCompletes := by
  unfold Obligations.ShutdownCompletes
  intro s ⟨hb, hp⟩
  have hclose : Leads 1 [.exec .cls] (accept s) [] (microDone .cls (accept s)) :=
    leads_micro rfl hp trivial rfl (calls_cls _ _)
  have hend : complete (microDone .cls (accept s)) = { s with
      clk := .closed
      dat := .closed
      flags := { s.flags with opened := false }
      err := .none
      seq := { s.seq with pc := [] } } := congrArg (microDone .cls) (complete_accept hb)
  exact ⟨_, exec_command_idle rfl rfl hb, hend ▸ hclose.runs⟩

/-! ## INITIALIZE -/

/-- The lines of INITIALIZE (R161). -/
def initCode : List Stmt := [.exec .wl, .exec .cko, .exec .ckl, .exec .dtl, .markOpened]

/-- INITIALIZE is accepted by an idle block, its lines opened or not, and clears `OPENED` first. -/
theorem Idle.exec_initLines {s : State} (h : Idle s) :
    exec .initLines s = .next (settle initCode (setOpened false (accept s))) := by
  obtain ⟨hb, -⟩ := h
  exact exec_command_idle rfl rfl hb

section

variable {s : State} (hb : s.flags.busy = true) (hp : s.port = none)
include hb hp

theorem leads_wl : Leads 1 [.exec .wl] s [] (microDone .wl s) := leads_micro hb hp trivial rfl rfl

/-- CLOCK is opened as an output. -/
theorem leads_initOpen {e : Env} (h : s.env.takeAnswer = (.ok, e)) :
    Leads 2 [.exec .wl, .exec .cko] s [] (setClk .x (setEnv e (microDone .wl s))) :=
  (leads_wl hb hp).seq
    (leads_micro (s := microDone .wl s) (u := .cko) hb hp trivial rfl ((calls_cko _ _).trans h))

/-- CLOCK is driven LOW. -/
theorem leads_initClock {e e' : Env} (h : s.env.takeAnswer = (.ok, e)) (h' : e.takeAnswer = (.ok, e')) :
    Leads 3 [.exec .wl, .exec .cko, .exec .ckl] s [] (setClk .low (setEnv e' (microDone .wl s))) :=
  (leads_initOpen hb hp h).seq
    (leads_micro (s := setClk .x (setEnv e (microDone .wl s))) (u := .ckl) hb hp nofun rfl ((calls_ckl _ _).trans h'))

end

/-- Under `LineOk` any calls succeed, the samples ahead are kept, and so is `LineOk`. -/
theorem LineOk.calls : ∀ (cs : List LineCall) {s : State}, LineOk s →
    ∃ e, Env.calls cs s.env = (.ok, e) ∧ e.pulls = s.env.pulls ∧ LineOk (setEnv e s)
  | [], s, h => ⟨s.env, rfl, rfl, h⟩
  | c :: cs, s, h => by
    obtain ⟨e, hcall, hpulls, hok⟩ :
        ∃ e, Env.call c s.env = (.ok, e) ∧ e.pulls = s.env.pulls ∧ LineOk (setEnv e s) := by
      cases hc : c.fallible with
      | true =>
        obtain ⟨e, ha, hrest⟩ := h.takeAnswer
        exact ⟨e, by rw [Env.call, if_pos hc, ha], hrest⟩
      | false => exact ⟨s.env, by simp [Env.call, hc], rfl, h⟩
    obtain ⟨e', hcalls, hpulls', hok'⟩ := LineOk.calls cs hok
    exact ⟨e', by rw [Env.calls, hcall]; exact hcalls, hpulls'.trans hpulls, hok'⟩

/-- The state INITIALIZE ends in (R161). -/
def initialized (e : Env) (s : State) : State :=
  setOpened true (setDat .assertLow (setClk .low (setEnv e (microDone .wl s))))

theorem leads_initialize {s : State} (hb : s.flags.busy = true) (hp : s.port = none) (h : LineOk s) :
    ∃ e, e.pulls = s.env.pulls ∧ LineOk (initialized e s) ∧ Leads 4 initCode s [] (initialized e s) := by
  obtain ⟨e₁, ha₁, hpulls₁, hok₁⟩ := h.takeAnswer
  obtain ⟨e₂, ha₂, hpulls₂, hok₂⟩ := LineOk.takeAnswer (s := setEnv e₁ s) hok₁
  obtain ⟨e₃, hcalls, hpulls₃, hok₃⟩ := LineOk.calls (lineCalls s.dat .dtl) (s := setEnv e₂ s) hok₂
  have hdata : Leads 1 [.exec .dtl] (setClk .low (setEnv e₂ (microDone .wl s))) []
      (setDat .assertLow (setEnv e₃ (setClk .low (setEnv e₂ (microDone .wl s))))) :=
    leads_micro (s := setClk .low (setEnv e₂ (microDone .wl s))) (u := .dtl) hb hp trivial rfl hcalls
  have hmark : Leads 0 [.markOpened] (setDat .assertLow (setEnv e₃ (setClk .low (setEnv e₂ (microDone .wl s))))) []
      (initialized e₃ s) := fun _ => rfl
  exact ⟨e₃, hpulls₃.trans (hpulls₂.trans hpulls₁), hok₃, (leads_initClock hb hp ha₁ ha₂).seq (hdata.seq hmark)⟩

/-- Settles O25: the four micro-operations, each with the answers its calls take. -/
theorem initializeCompletes : Obligations.InitializeCompletes := by
  unfold Obligations.InitializeCompletes
  intro s hidle hl
  have ⟨hb, hp⟩ := hidle
  obtain ⟨e, hpulls, hok, hinit⟩ := leads_initialize (s := setOpened false (accept s)) rfl hp hl
  exact ⟨_, _, hidle.exec_initLines, hinit.runs, congrArg (initialized e) (complete_accept hb), hpulls, hok⟩

/-- A DTL one of whose calls fails ends INITIALIZE. -/
theorem ends_initData {s : State} {e e' e'' : Env} {p : Payload} (hb : s.flags.busy = true) (hp : s.port = none)
    (h : s.env.takeAnswer = (.ok, e)) (h' : e.takeAnswer = (.ok, e'))
    (hc : Env.calls (lineCalls s.dat .dtl) e' = (.fail p, e'')) :
    Ends 4 initCode s (abort (.lineIo p) (setDat .x (setEnv e'' (setClk .low (setEnv e' (microDone .wl s)))))) :=
  (leads_initClock hb hp h h').seq_ends ((ends_micro (s := setClk .low (setEnv e' (microDone .wl s))) (u := .dtl)
    hb hp trivial hc).append [.markOpened])

/-- Settles O26: for each micro-operation, the run up to it and its failure; a DTL from `CLOSED` has two calls that can
fail. -/
theorem initializeStopsAtTheFirstFailure : Obligations.InitializeStopsAtTheFirstFailure := by
  unfold Obligations.InitializeStopsAtTheFirstFailure
  intro s p hidle
  have ⟨_, hp⟩ := hidle
  have hexec := hidle.exec_initLines
  have hport : (setOpened false (accept s)).port = none := hp
  refine ⟨fun h => ?cko, fun h => ?ckl, fun h => ?dtl, fun hd h => ?dtlWrite⟩
  case cko =>
    obtain ⟨e₁, ha₁, -⟩ := Env.takeAnswer_of_begins h
    have hend := (leads_wl rfl hport).seq_ends ((ends_micro (s := microDone .wl (setOpened false (accept s)))
      (u := .cko) rfl hp trivial ((calls_cko _ _).trans ha₁)).append [.exec .ckl, .exec .dtl, .markOpened])
    exact ⟨_, _, hexec, hend.runs, rfl, rfl, rfl, rfl, rfl, rfl, rfl⟩
  case ckl =>
    obtain ⟨e₁, ha₁, h, -⟩ := Env.takeAnswer_of_begins h
    obtain ⟨e₂, ha₂, -⟩ := Env.takeAnswer_of_begins h
    have hend := (leads_initOpen rfl hport ha₁).seq_ends
      ((ends_micro (s := setClk .x (setEnv e₁ (microDone .wl (setOpened false (accept s))))) (u := .ckl) rfl hp nofun
        ((calls_ckl _ _).trans ha₂)).append [.exec .dtl, .markOpened])
    exact ⟨_, _, hexec, hend.runs, rfl, rfl, rfl, rfl, rfl, rfl, rfl⟩
  case dtl =>
    obtain ⟨e₁, ha₁, h, -⟩ := Env.takeAnswer_of_begins h
    obtain ⟨e₂, ha₂, h, -⟩ := Env.takeAnswer_of_begins h
    obtain ⟨e₃, ha₃, -⟩ := Env.takeAnswer_of_begins h
    have hcalls : Env.calls (lineCalls s.dat .dtl) e₂ = (.fail p, e₃) := by
      by_cases hd : s.dat = .closed
      · exact hd ▸ calls_dtl_closed_fail ha₃
      · exact (calls_dtl hd e₂).trans ha₃
    exact ⟨_, _, hexec, (ends_initData rfl hport ha₁ ha₂ hcalls).runs, rfl, rfl, rfl, rfl, rfl, rfl, rfl⟩
  case dtlWrite =>
    obtain ⟨e₁, ha₁, h, -⟩ := Env.takeAnswer_of_begins h
    obtain ⟨e₂, ha₂, h, -⟩ := Env.takeAnswer_of_begins h
    obtain ⟨e₃, ha₃, h, -⟩ := Env.takeAnswer_of_begins h
    obtain ⟨e₄, ha₄, -⟩ := Env.takeAnswer_of_begins h
    have hcalls : Env.calls (lineCalls s.dat .dtl) e₂ = (.fail p, e₄) := (hd ▸ calls_dtl_closed ha₃).trans ha₄
    exact ⟨_, _, hexec, (ends_initData rfl hport ha₁ ha₂ hcalls).runs, rfl, rfl, rfl, rfl, rfl, rfl, rfl⟩

end Sys2Proof.Machine
end

section
/-! The commands on opened lines, run to their end, from the runs of the patterns: what is left to say of each is the
state it ends in, as the state it was accepted in tells it. -/

namespace Sys2Proof.Machine

theorem Ready.busy_eq_false {s : State} (h : Ready s) : s.flags.busy = false := by
  obtain ⟨⟨hb, -⟩, -⟩ := h
  exact hb

/-! ## TSTART -/

/-- Settles O28, by TSTART's run. -/
theorem tstartCompletes : Obligations.TstartCompletes := by
  unfold Obligations.TstartCompletes
  intro s hr hl
  obtain ⟨e, hpulls, hlive, hlead⟩ := leads_tstart (hr.live_accept hl)
  exact ⟨_, _, hr.exec_command rfl, hlead.runs,
    congrArg (fun t => setCrc 0x00 (onWires .low .released e 6 t)) (complete_accept hr.busy_eq_false), hpulls,
    hlive.lineOk⟩

/-- A command is under way without an error, and the host presents nothing during it or after it. -/
structure Unattended (s : State) : Prop where
  busy : s.flags.busy = true
  err : s.err = .none
  port : s.port = none
  script : s.script = []

/-- An idle block to which the host presents nothing stays as it is. -/
theorem runs_idle {s u : State} (hb : s.flags.busy = false) (hp : s.port = none) (hs : s.script = []) :
    ∀ {n : Nat}, Runs n s u → u = s
  | 0, h => h.symm
  | _ + 1, ⟨r, hr, h⟩ => by
    have hstep : step s = .next s := by simp [step, fetch, hb, hp, hs]
    rw [hstep] at hr
    cases hr
    exact runs_idle hb hp hs h

/-- The step of a command under way: its micro-operation succeeds, or fails and the command is aborted. -/
theorem step_under_way {s t : State} {st : Stmt} {k : List Stmt} {u : Instr} (hb : s.flags.busy = true)
    (hp : s.port = none) (hpc : s.seq.pc = st :: k) (hm : Stmt.micro s st = some u) (hs : step s = .next t) :
    (∃ e, t = settle k (microDone u (setEnv e s))) ∨
    ∃ p e, t = abort (.lineIo p) (microFailed u (setEnv e s)) := by
  have henv (e : Env) : setEnv e (setPc k s) = setPc k (setEnv e s) := rfl
  rw [step_micro hb hp hpc hm] at hs
  cases hx : exec u (setPc k s) with
  | fault | refused => rw [hx] at hs; cases hs
  | next r =>
    rw [hx] at hs
    rcases exec_micro_next (layer_of_exec_busy (s := setPc k s) hb hx) hx with ⟨e, rfl⟩ | ⟨p, e, rfl⟩
    · rw [henv, microDone_setPc, resume_next (by simpa using hb), setPc_seq, settle_setPc] at hs
      exact .inl ⟨e, (Host.Outcome.next.inj hs).symm⟩
    · rw [henv, abort_microFailed_setPc, resume_abort] at hs
      exact .inr ⟨p, e, (Host.Outcome.next.inj hs).symm⟩

@[simp] theorem microFailed_port (u : Instr) (s : State) : (microFailed u s).port = s.port := by cases u <;> rfl
@[simp] theorem microFailed_script (u : Instr) (s : State) : (microFailed u s).script = s.script := by cases u <;> rfl

/-- A position of micro-operations. -/
theorem settle_execs (c : List Instr) (u : Instr) (s : State) :
    settle (c.map .exec ++ [.exec u]) s = setPc (c.map .exec ++ [.exec u]) s := by cases c <;> rfl

theorem Unattended.microDone {s : State} (h : Unattended s) (u : Instr) (e : Env) (k : List Stmt) :
    Unattended (setPc k (Machine.microDone u (setEnv e s))) where
  busy := (microDone_busy u _).trans h.busy
  err := (microDone_err u _).trans h.err
  port := (microDone_port (u := u) _).trans h.port
  script := (microDone_script (u := u) _).trans h.script

/-- Micro-operations that keep the data registers, before a last one: an error within them leaves the registers. -/
theorem Unattended.error_keeps_regs : ∀ {c : List Instr} {last : Instr} {n : Nat} {s u : State}, Unattended s →
    s.seq.pc = c.map .exec ++ [.exec last] → (∀ v ∈ c, ∀ t, (Machine.microDone v t).regs = t.regs) →
    n ≤ c.length + 1 → Runs n s u → u.err ≠ .none → u.err = .lineIo ∧ u.regs = s.regs ∧ u.flags.busy = false
  | _, _, 0, _, _, h, _, _, _, rfl, herr => absurd h.err herr
  | [], last, n + 1, s, u, h, hpc, _, hn, ⟨t, hs, hrun⟩, herr => by
    obtain rfl : n = 0 := by simpa using hn
    obtain rfl : t = u := hrun
    rcases step_under_way (k := []) h.busy h.port hpc rfl hs with ⟨e, rfl⟩ | ⟨p, e, rfl⟩
    · exact absurd ((microDone_err last (setEnv e s)).trans h.err) herr
    · exact ⟨rfl, microFailed_regs last (setEnv e s), rfl⟩
  | v :: c, last, n + 1, s, u, h, hpc, hc, hn, ⟨t, hs, hrun⟩, herr => by
    obtain ⟨hv, hc⟩ := List.forall_mem_cons.1 hc
    have hpc : s.seq.pc = .exec v :: (c.map .exec ++ [.exec last]) := hpc
    rcases step_under_way h.busy h.port hpc rfl hs with ⟨e, rfl⟩ | ⟨p, e, rfl⟩
    · rw [settle_execs] at hrun
      obtain ⟨hkind, hregs, hbusy⟩ := (h.microDone v e _).error_keeps_regs rfl hc (Nat.le_of_succ_le_succ hn) hrun herr
      exact ⟨hkind, hregs.trans (hv (setEnv e s)), hbusy⟩
    · obtain rfl := runs_idle (s := abort (.lineIo p) (microFailed v (setEnv e s))) rfl
        ((microFailed_port v _).trans h.port) ((microFailed_script v _).trans h.script) hrun
      exact ⟨rfl, microFailed_regs v (setEnv e s), rfl⟩

/-- Settles O29: of TSTART's lines only the last writes `CRC`, and it cannot fail. -/
theorem failedTstartKeepsTheAccumulator : Obligations.FailedTstartKeepsTheAccumulator := by
  unfold Obligations.FailedTstartKeepsTheAccumulator
  intro s t u n hr hscript ht hn hrun herr
  have ⟨⟨_, hp⟩, _⟩ := hr
  obtain rfl := hr.eq_of_exec_command rfl ht
  have h : Unattended (beginCommand .tstart (accept s)) := ⟨rfl, rfl, hp, hscript⟩
  exact h.error_keeps_regs (c := [.ckh, .ws, .dtl, .ws, .ckl, .ws, .ckh, .ws, .dth, .ws, .ckl, .ws]) (last := .crs) rfl
    (by simp [microDone]) hn hrun herr

/-! ## SEND_BYTE -/

/-- Settles O31, by the run of SEND_BYTE acknowledged. -/
theorem sendByteCompletes : Obligations.SendByteCompletes := by
  unfold Obligations.SendByteCompletes
  intro s v more hr hl ht
  obtain ⟨e, hmore, hlive, hlead⟩ := leads_sendByte (hr.live_accept hl) v ht
  exact ⟨_, _, hr.exec_command rfl, hlead.runs, congrArg (sentByte v e) (complete_accept hr.busy_eq_false), hmore,
    hlive.lineOk⟩

/-- The state at the acknowledgment sample of SEND_BYTE, which finds DATA HIGH. -/
def unacknowledged (e : Env) (s : State) : State :=
  setSample true (setBitcnt 0 (onWires .high .released e 27 s))

/-- A HIGH acknowledgment sample ends the command. -/
theorem ends_ackTest {s : State} (hd : s.seq.d = true) : Ends 0 [.ackTest] s (abort .notAcknowledged s) := fun k => by
  simp [settle_ackTest, hd]

/-- SEND_BYTE not acknowledged ends the command at the sample. -/
theorem ends_sendByte {s : State} (h : Live s) (v : Byte) {more : List Pull} (ht : Tape (.float :: more) s) :
    ∃ e, Tape more (unacknowledged e s) ∧ LineOk (unacknowledged e s) ∧
      Ends 55 [.callSendByte v] s (abort .notAcknowledged (unacknowledged e s)) := by
  have hcall : Leads 0 [.callSendByte v] s (sendLoop v ++ sendTail v) (setBitcnt topBit s) := fun _ => rfl
  obtain ⟨e₁, hpulls₁, hlive₁, hloop⟩ := leads_sendLoop (s := setBitcnt topBit s) { h with } v rfl
  obtain ⟨e₂, hpulls₂, hlive₂, hrelease⟩ := leads_lines
    [.exec .ckl, .exec .ws, .exec .dth, .exec .ws, .exec .ckh, .exec .ws] hlive₁ (by decide)
  obtain ⟨b, e₃, hlive₃, hsample, hbit⟩ := leads_drd hlive₂
  obtain ⟨rfl, hmore⟩ := hbit .float more rfl (ht.of_pulls (hpulls₂.trans hpulls₁))
  have htail := (hrelease.seq hsample).seq_ends
    ((ends_ackTest rfl).append [.exec (.cup v), .exec .ckl, .exec .ws])
  exact ⟨e₃, hmore, hlive₃.lineOk, hcall.ends (hloop.seq_ends htail)⟩

/-- The state at the acknowledgment sample of START_MEAS, which finds DATA HIGH: the transmission start has reset
`CRC`. -/
def unmeasured (e : Env) (s : State) : State :=
  setSample true (setCrc 0x00 (setBitcnt 0 (onWires .high .released e 33 s)))

theorem ends_startMeas {s : State} (h : Live s) (q : Quantity) {more : List Pull} (ht : Tape (.float :: more) s) :
    ∃ e, Tape more (unmeasured e s) ∧ LineOk (unmeasured e s) ∧
      Ends 68 [.callTstart, .callSendByte (mtByte q)] s (abort .notAcknowledged (unmeasured e s)) := by
  obtain ⟨e₁, hpulls, hlive, htstart⟩ := leads_tstart h
  obtain ⟨e₂, hmore, hok, hsend⟩ := ends_sendByte hlive (mtByte q) (ht.of_pulls hpulls)
  exact ⟨e₂, hmore, hok, htstart.seq_ends hsend⟩

/-- Settles O32: READ is START_MEAS with a call of AWAIT_READ after it, which is not reached. -/
theorem sendByteNotAcknowledged : Obligations.SendByteNotAcknowledged := by
  unfold Obligations.SendByteNotAcknowledged
  intro s more hr hl ht
  have hlive := hr.live_accept hl
  have herror := abort_accept hr.busy_eq_false .notAcknowledged
  refine ⟨fun v => ?_, fun i q hi => ?_⟩
  · obtain ⟨e, hmore, hok, hend⟩ := ends_sendByte hlive v ht
    exact ⟨_, _, hr.exec_command rfl, hend.runs, congrArg (unacknowledged e) herror, hmore, hok⟩
  · rcases hi with rfl | rfl
    · obtain ⟨e, hmore, hok, hend⟩ := ends_startMeas hlive q ht
      exact ⟨_, _, hr.exec_command rfl, hend.runs, congrArg (unmeasured e) herror, hmore, hok⟩
    · obtain ⟨e, hmore, hok, hend⟩ := ends_startMeas (s := setValValid false (accept s)) { hlive with } q ht
      exact ⟨_, _, hr.exec_command rfl, (hend.append [.callAwaitRead]).runs, congrArg (unmeasured e) herror, hmore, hok⟩

/-! ## RECV_BYTE -/

/-- Settles O34, by the run of RECV_BYTE from released DATA. -/
theorem recvByteCompletes : Obligations.RecvByteCompletes := by
  unfold Obligations.RecvByteCompletes
  intro s ack v more hr hl hd ht
  obtain ⟨e, hmore, hlive, hlead⟩ := leads_recvByte (hr.live_accept hl) ack hd ht
  exact ⟨_, _, hr.exec_command rfl, hlead.runs, congrArg (receivedByte v e) (complete_accept hr.busy_eq_false), hmore,
    hlive.lineOk⟩

/-- Settles O35: the run is the same, whatever the samples are. -/
theorem recvByteCompletesUnreleased : Obligations.RecvByteCompletesUnreleased := by
  unfold Obligations.RecvByteCompletesUnreleased
  intro s ack hr hl _
  obtain ⟨bs, e, -, -, hlead, -⟩ := leads_recvBits (hr.live_accept hl) ack
  exact ⟨_, _, hr.exec_command rfl, hlead.runs,
    congrArg (fun t => (receivedBits ack bs e t).flags) (complete_accept hr.busy_eq_false), rfl, rfl, rfl, rfl⟩

/-! ## RESET -/

/-- Write `CLKCNT` (R30). -/
def setClkcnt (n : Nat) (s : State) : State := setCnt { s.cnt with clkcnt := n } s

/-- The lines of RESET's loop. -/
def pulseLoop : List Stmt := pulse ++ [.pulseNext]

/-- `n` clock pulses made, the last of them the ninth. -/
def pulsed (n : Nat) (e : Env) (s : State) : State := setClkcnt Config.nResetClocks (onWires .low s.dat e (2 * n) s)

theorem leads_pulse {s : State} (h : Live s) :
    ∃ e, e.pulls = s.env.pulls ∧ Live (onWires .low s.dat e 2 s) ∧ Leads 4 pulse s [] (onWires .low s.dat e 2 s) :=
  leads_lines pulse h (by decide)

theorem leads_pulseNext {s : State} (hn : s.cnt.clkcnt ≠ Config.nResetClocks) :
    Leads 0 [.pulseNext] s pulseLoop (setClkcnt (s.cnt.clkcnt + 1) s) := fun _ => if_neg hn

theorem leads_pulseNext_last {s : State} (hn : s.cnt.clkcnt = Config.nResetClocks) :
    Leads 0 [.pulseNext] s [] s := fun _ => if_pos hn

theorem pulsed_pulse (m n : Nat) (e e' : Env) (s : State) :
    pulsed n e' (setClkcnt m (onWires .low s.dat e 2 s)) = pulsed (n + 1) e' s := by
  have hcount : 2 + 2 * n = 2 * (n + 1) := by omega
  simp [pulsed, setClkcnt, setCnt, onWires, Nat.add_assoc, hcount]

theorem pulsed_one {s : State} (hn : s.cnt.clkcnt = Config.nResetClocks) (e : Env) :
    pulsed 1 e s = onWires .low s.dat e 2 s := by
  rw [pulsed, ← hn]
  rfl

/-- The loop with `j` pulses left after the one under way. -/
theorem leads_pulseLoop : ∀ (j : Nat) {s : State}, Live s → s.cnt.clkcnt + j = Config.nResetClocks →
    ∃ e, e.pulls = s.env.pulls ∧ Live (pulsed (j + 1) e s) ∧ Leads (4 * (j + 1)) pulseLoop s [] (pulsed (j + 1) e s)
  | 0, s, h, hn => by
    obtain ⟨e, hpulls, hlive, hpulse⟩ := leads_pulse h
    have hnext := leads_pulseNext_last (s := onWires .low s.dat e 2 s) hn
    rw [← pulsed_one hn] at hlive hpulse hnext
    exact ⟨e, hpulls, hlive, hpulse.seq hnext⟩
  | j + 1, s, h, hn => by
    obtain ⟨e, hpulls, hlive, hpulse⟩ := leads_pulse h
    have hne : s.cnt.clkcnt ≠ Config.nResetClocks := by omega
    have hnext := leads_pulseNext (s := onWires .low s.dat e 2 s) hne
    obtain ⟨e', hpulls', hlive', hrest⟩ :=
      leads_pulseLoop j (s := setClkcnt (s.cnt.clkcnt + 1) (onWires .low s.dat e 2 s)) { hlive with }
        ((Nat.add_right_comm _ 1 j).trans hn)
    rw [pulsed_pulse] at hlive' hrest
    have hcount : 4 * (j + 1 + 1) = 4 + 0 + 4 * (j + 1) := by omega
    rw [hcount]
    exact ⟨e', hpulls'.trans hpulls, hlive', (hpulse.seq hnext).trans hrest⟩

/-- The state before the command byte of RESET: nine pulses and a transmission start. -/
def resynchronised (e : Env) (s : State) : State := setCrc 0x00 (setClkcnt 9 (onWires .low .released e 25 s))

theorem leads_resynchronise {s : State} (h : Live s) :
    ∃ e, e.pulls = s.env.pulls ∧ Live (resynchronised e s) ∧
      Leads 51 [.exec .dth, .exec .ws, .pulseStart, .callTstart] s [] (resynchronised e s) := by
  obtain ⟨e₁, hpulls₁, hlive₁, hrelease⟩ := leads_lines [.exec .dth, .exec .ws] h (by decide)
  have hstart (t : State) : Leads 0 [.pulseStart] t pulseLoop (setClkcnt 1 t) := fun _ => rfl
  obtain ⟨e₂, hpulls₂, hlive₂, hpulses⟩ := leads_pulseLoop 8
    (s := setClkcnt 1 (onWires s.clk .released e₁ 1 s)) { hlive₁ with } rfl
  obtain ⟨e₃, hpulls₃, hlive₃, htstart⟩ := leads_tstart hlive₂
  exact ⟨e₃, hpulls₃.trans (hpulls₂.trans hpulls₁), hlive₃,
    hrelease.seq (((hstart _).trans hpulses).seq htstart)⟩

/-- The state RESET ends in, acknowledged: its command byte accumulates from zero to `0x5C` (R166). -/
def resetDone (e : Env) (s : State) : State :=
  setSample false (setCrc 0x5C (setBitcnt 0 (setClkcnt 9 (onWires .low .released e 53 s))))

theorem sentByte_resynchronised (e e' : Env) (s : State) :
    sentByte Config.cmdSoftReset e' (resynchronised e s) = resetDone e' s := by
  have hcrc : crcUpdate 0x00 Config.cmdSoftReset = 0x5C := by decide
  rw [resetDone, ← hcrc]
  rfl

/-- Settles O37: the nine pulses and the transmission start, then SEND_BYTE acknowledged. -/
theorem resetCompletes : Obligations.ResetCompletes := by
  unfold Obligations.ResetCompletes
  intro s more hr hl ht
  obtain ⟨e₁, hpulls, hlive₁, hstart⟩ := leads_resynchronise (hr.live_accept hl)
  obtain ⟨e₂, hmore, hlive₂, hsend⟩ := leads_sendByte hlive₁ Config.cmdSoftReset (ht.of_pulls hpulls)
  rw [sentByte_resynchronised] at hmore hlive₂ hsend
  exact ⟨_, _, hr.exec_command rfl, (hstart.seq hsend).runs,
    congrArg (resetDone e₂) (complete_accept hr.busy_eq_false), hmore, hlive₂.lineOk⟩

/-- Settles O38: the same, then SEND_BYTE not acknowledged. -/
theorem resetNotAcknowledged : Obligations.ResetNotAcknowledged := by
  unfold Obligations.ResetNotAcknowledged
  intro s more hr hl ht
  obtain ⟨e₁, hpulls, hlive, hstart⟩ := leads_resynchronise (hr.live_accept hl)
  obtain ⟨e₂, hmore, -, hsend⟩ := ends_sendByte hlive Config.cmdSoftReset (ht.of_pulls hpulls)
  exact ⟨_, _, hr.exec_command rfl, (hstart.seq_ends hsend).runs, rfl, rfl, rfl, rfl, rfl, hmore⟩

/-! ## START_MEAS -/

/-- Settles O39, by the run of START_MEAS acknowledged. -/
theorem startMeasCompletes : Obligations.StartMeasCompletes := by
  unfold Obligations.StartMeasCompletes
  intro s q more hr hl ht
  obtain ⟨e, hmore, hlive, hlead⟩ := leads_startMeas (hr.live_accept hl) q ht
  exact ⟨_, _, hr.exec_command rfl, hlead.runs, congrArg (measStarted q e) (complete_accept hr.busy_eq_false), hmore,
    hlive.lineOk⟩

/-! ## AWAIT_READ -/

/-- The state after the frames of AWAIT_READ, ready on attempt `k` (R168). -/
def framesAwaited (k : Nat) (hi lo chk : Byte) (e : Env) (s : State) : State :=
  { s with
    clk := .low
    dat := .released
    regs := { s.regs with crc := crcUpdate (crcUpdate s.regs.crc hi) lo, rxb := chk, hi := hi, lo := lo, chk := chk }
    cnt := { s.cnt with bitcnt := 0, attempt := k }
    flags := { s.flags with rxValid := true, valValid := false }
    seq := { s.seq with d := chk.getLsbD 0 }
    env := e
    delays := { s.delays with short := s.delays.short + 54, poll := s.delays.poll + k } }

/-- The attempts are counted from zero. -/
theorem awaited_eq (k : Nat) (hi lo chk : Byte) (e : Env) (s : State) :
    awaited k hi lo chk e s = framesAwaited k hi lo chk e s := by
  simp only [awaited, polled, setCnt_cnt, Nat.zero_add]
  rfl

/-- Settles O40, by the run of AWAIT_READ with a matching checksum. -/
theorem awaitReadCompletes : Obligations.AwaitReadCompletes := by
  unfold Obligations.AwaitReadCompletes
  intro s k hi lo chk more hr hl hd hk hk' hchk ht
  obtain ⟨e, hmore, hlive, hlead⟩ := leads_awaitRead (hr.live_accept hl) hd hk hk' ht hchk
  rw [awaited_eq] at hmore hlive hlead
  have hend : complete (deliverValue (framesAwaited k hi lo chk e (accept s))) =
    deliverValue (framesAwaited k hi lo chk e (complete (accept s))) := rfl
  refine ⟨_, _, hr.exec_command rfl, hlead.runs, ?_, hmore, hlive.lineOk⟩
  rw [hend, complete_accept hr.busy_eq_false]
  rfl

/-- A checksum that differs ends the command (R168). -/
theorem ends_checksum {s : State} (hchk : s.regs.chk ≠ mirror8 s.regs.crc) :
    Ends 0 [.checksum] s (abort .checksumMismatch (setCrcOk false s)) := fun k => by
  simp [settle_checksum, checksumMatches, hchk]

/-- AWAIT_READ with a wrong checksum ends the command after the three frames. -/
theorem ends_awaitRead {s : State} {k : Nat} {hi lo chk : Byte} {more : List Pull} (h : Live s)
    (hd : s.dat = .released) (hk : 1 ≤ k) (hk' : k ≤ 62) (ht : Tape (readoutTape k hi lo chk ++ more) s)
    (hchk : chk ≠ mirror8 (crcUpdate (crcUpdate s.regs.crc hi) lo)) :
    ∃ e, Tape more (framesAwaited k hi lo chk e s) ∧ LineOk (framesAwaited k hi lo chk e s) ∧
      Ends (2 * k + 138) [.callAwaitRead] s
        (abort .checksumMismatch (setCrcOk false (framesAwaited k hi lo chk e s))) := by
  obtain ⟨e, hmore, hlive, hframes⟩ := leads_awaitFrames h hd hk hk' ht
  rw [awaited_eq] at hmore hlive hframes
  exact ⟨e, hmore, hlive.lineOk, hframes.ends (ends_checksum hchk)⟩

/-- The wrong checksum's end of AWAIT_READ, from the state that an abort at once would end in. -/
theorem abort_framesAwaited (k : Nat) (hi lo chk : Byte) (e : Env) (s : State) :
    abort .checksumMismatch (setCrcOk false (framesAwaited k hi lo chk e s)) =
      setCrcOk false (setRxValid false (framesAwaited k hi lo chk e (abort .checksumMismatch s))) := rfl

/-- Settles O41: READ is START_MEAS, then AWAIT_READ from the accumulator of the command byte. -/
theorem awaitReadMismatch : Obligations.AwaitReadMismatch := by
  unfold Obligations.AwaitReadMismatch
  intro s k hi lo chk more hr hl hk hk'
  have hlive := hr.live_accept hl
  have herror := abort_accept hr.busy_eq_false .checksumMismatch
  refine ⟨fun hd hchk ht => ?await, fun q hchk ht => ?read⟩
  case await =>
    obtain ⟨e, hmore, hok, hend⟩ := ends_awaitRead hlive hd hk hk' ht hchk
    refine ⟨_, _, hr.exec_command rfl, hend.runs, ?_, hmore, hok⟩
    rw [abort_framesAwaited, herror]
    rfl
  case read =>
    obtain ⟨e₁, hmore₁, hlive₁, hstart⟩ := leads_startMeas (s := setValValid false (accept s)) { hlive with } q
      (more := readoutTape k hi lo chk ++ more) ht
    obtain ⟨e₂, hmore₂, hok, hend⟩ := ends_awaitRead hlive₁ rfl hk hk' hmore₁ hchk
    have hmeas : abort .checksumMismatch (measStarted q e₁ (setValValid false (accept s))) =
      measStarted q e₁ (abort .checksumMismatch (accept s)) := rfl
    have hcount : 2 * k + 209 = 71 + (2 * k + 138) := by omega
    rw [hcount]
    refine ⟨_, _, hr.exec_command rfl, (hstart.seq_ends hend).runs, ?_, hmore₂, hok⟩
    rw [abort_framesAwaited, hmeas, herror]
    rfl

end Sys2Proof.Machine
end

section
/-! Every command ends (R171). `remaining` bounds the micro-operations a position can still take, whatever the
environment answers; every step of a command under way lowers it. -/

namespace Sys2Proof.Machine

/-! ## The bound -/

/-- Counters with every round of every loop ahead. -/
def Counters.fresh : Counters := ⟨topBit, 0, 0⟩

/-- A loop's last line, or a line that begins a loop or calls one: the loops after it have all their rounds ahead. -/
def Stmt.ownsCounter : Stmt → Bool
  | .sendNext _ | .recvNext | .pulseStart | .pulseNext | .pollNext => true
  | .callTstart | .callSendByte _ | .callRecvByte _ | .callAwaitRead | .callRead _ => true
  | _ => false

/-- The micro-operations of a line: of a call, all of the callee's, with the longest wait; of a loop's last line, those
of the rounds left (R170). -/
def Stmt.weight (c : Counters) : Stmt → Nat
  | .exec _ | .execDataBit _ | .execCupHi | .execCupLo => 1
  | .sendNext _ => 6 * c.bitcnt
  | .recvNext => 5 * c.bitcnt
  | .pulseStart => 36
  | .pulseNext => 4 * (9 - c.clkcnt)
  | .pollNext => 2 * (62 - (c.attempt + 1))
  | .callTstart => 13
  | .callSendByte _ => 58
  | .callRecvByte ack => if ack then 46 else 44
  | .callAwaitRead => 262
  | .callRead _ => 333
  | _ => 0

/-- The most micro-operations the lines `k` can take, the counters being `c`. -/
def remaining (c : Counters) : List Stmt → Nat
  | [] => 0
  | st :: k => Stmt.weight c st + remaining (if Stmt.ownsCounter st then Counters.fresh else c) k

/-- What a state's position can still take. -/
def State.remaining (s : State) : Nat := Machine.remaining s.cnt s.seq.pc

theorem Stmt.weight_le_fresh {c : Counters} (hc : c.bitcnt ≤ 7) (st : Stmt) :
    Stmt.weight c st ≤ Stmt.weight .fresh st := by
  cases st with
  | sendNext | recvNext => exact Nat.mul_le_mul_left _ hc
  | pulseNext => exact Nat.mul_le_mul_left 4 (Nat.sub_le_sub_left (Nat.zero_le _) 9)
  | pollNext => exact Nat.mul_le_mul_left 2 (Nat.sub_le_sub_left (Nat.succ_le_succ (Nat.zero_le _)) 62)
  | _ => exact Nat.le_refl _

/-- No position takes more than with every round ahead. -/
theorem remaining_le_fresh : ∀ {c : Counters}, c.bitcnt ≤ 7 → ∀ k : List Stmt, remaining c k ≤ remaining .fresh k
  | _, _, [] => Nat.le_refl _
  | c, hc, st :: k => by
    refine Nat.add_le_add (Stmt.weight_le_fresh hc st) ?_
    cases Stmt.ownsCounter st with
    | true => exact Nat.le_refl _
    | false => exact remaining_le_fresh hc k

/-- The weight of a line that owns no counter does not depend on the counters. -/
theorem Stmt.weight_eq_fresh {st : Stmt} (h : Stmt.ownsCounter st = false) (c : Counters) :
    Stmt.weight c st = Stmt.weight .fresh st := by
  cases st with
  | sendNext | recvNext | pulseNext | pollNext => cases h
  | _ => rfl

/-- Lines that own no counter, before others. -/
theorem remaining_append (c : Counters) : ∀ {l : List Stmt}, l.any Stmt.ownsCounter = false → ∀ k : List Stmt,
    remaining c (l ++ k) = remaining .fresh l + remaining c k
  | [], _, _ => (Nat.zero_add _).symm
  | st :: l, h, k => by
    obtain ⟨hst, hl⟩ := Bool.or_eq_false_iff.1 h
    simp [remaining, hst, Stmt.weight_eq_fresh hst c, remaining_append c hl k, Nat.add_assoc]

/-- With every round ahead, any lines before others. -/
theorem remaining_append_fresh : ∀ l k : List Stmt,
    remaining .fresh (l ++ k) = remaining .fresh l + remaining .fresh k
  | [], _ => (Nat.zero_add _).symm
  | st :: l, k => by simp [remaining, remaining_append_fresh l k, Nat.add_assoc]

/-- Without its first line a position takes no more. -/
theorem remaining_tail_le {c : Counters} (hc : c.bitcnt ≤ 7) (st : Stmt) (k : List Stmt) :
    remaining c k ≤ remaining c (st :: k) := by
  refine le_trans ?_ (Nat.le_add_left _ _)
  cases Stmt.ownsCounter st with
  | true => exact remaining_le_fresh hc k
  | false => exact Nat.le_refl _

/-! ## Control lines do not raise it -/

section

variable {k : List Stmt} {s : State}

theorem remaining_abort (r : Raised) (s : State) : (abort r s).remaining = 0 := rfl

theorem remaining_sendRound (v : Byte) (n : Nat) :
    (setPc (sendSlot v ++ .sendNext v :: k) (setCnt { s.cnt with bitcnt := n } s)).remaining =
      6 * (n + 1) + remaining .fresh k := by
  refine (remaining_append _ (l := sendSlot v) rfl _).trans ?_
  show 6 + (6 * n + remaining .fresh k) = _
  omega

theorem remaining_recvRound (n : Nat) :
    (setPc (recvSlot ++ .recvNext :: k) (setCnt { s.cnt with bitcnt := n } s)).remaining =
      5 * (n + 1) + remaining .fresh k := by
  refine (remaining_append _ (l := recvSlot) rfl _).trans ?_
  show 5 + (5 * n + remaining .fresh k) = _
  omega

theorem remaining_pulseRound (n : Nat) :
    (setPc (pulse ++ .pulseNext :: k) (setCnt { s.cnt with clkcnt := n } s)).remaining =
      4 + (4 * (9 - n) + remaining .fresh k) :=
  remaining_append _ (l := pulse) rfl _

theorem remaining_pollTop (hs : s.cnt.attempt ≤ Config.nPoll) :
    (pollTop k s).remaining ≤ 2 * (62 - s.cnt.attempt) + remaining .fresh k := by
  unfold pollTop
  split
  · exact Nat.zero_le _
  next hne =>
    have hlt : s.cnt.attempt < 62 := Nat.lt_of_le_of_ne hs hne
    show 1 + (1 + (2 * (62 - (s.cnt.attempt + 1)) + remaining .fresh k)) ≤ _
    omega

theorem remaining_beginTstart (hs : s.cnt.bitcnt ≤ 7) :
    (beginTstart k s).remaining ≤ 13 + remaining .fresh k := by
  have hcode : remaining .fresh tstartCode = 13 := rfl
  refine (remaining_append _ (l := tstartCode) rfl _).trans_le ?_
  rw [hcode]
  exact Nat.add_le_add_left (remaining_le_fresh hs k) 13

theorem remaining_beginSendByte (v : Byte) : (beginSendByte v k s).remaining = 58 + remaining .fresh k := by
  refine (remaining_sendRound v topBit).trans ?_
  rw [remaining_append_fresh]
  show 6 * 8 + (10 + remaining .fresh k) = _
  omega

theorem remaining_beginRecvByte (ack : Bool) :
    (beginRecvByte ack k s).remaining = (if ack then 46 else 44) + remaining .fresh k := by
  have htail : 5 * 8 + remaining .fresh (recvTail ack) = if ack then 46 else 44 := by cases ack <;> rfl
  refine (remaining_recvRound (s := setRxb 0x00 (setRxValid false s)) topBit).trans ?_
  rw [remaining_append_fresh, ← htail]
  exact (Nat.add_assoc _ _ _).symm

theorem remaining_beginAwaitRead : (beginAwaitRead k s).remaining ≤ 262 + remaining .fresh k := by
  have hcode : remaining .fresh readout = 138 := rfl
  refine (remaining_pollTop (s := setCnt { s.cnt with attempt := 0 } (setValValid false s)) (Nat.zero_le _)).trans ?_
  rw [remaining_append_fresh, hcode]
  exact (Nat.add_assoc (2 * 62) 138 _).symm.le

theorem remaining_beginRead (hs : s.cnt.bitcnt ≤ 7) (q : Quantity) :
    (beginRead q k s).remaining ≤ 333 + remaining .fresh k := by
  refine (remaining_beginTstart (s := setValValid false s) hs).trans ?_
  show 13 + (58 + (262 + remaining .fresh k)) ≤ _
  omega

end

/-- Control lines, no poll attempt under way, do not raise the bound. -/
theorem remaining_settle : ∀ {k : List Stmt} {s : State}, s.cnt.bitcnt ≤ 7 → s.cnt.clkcnt ≤ 9 → .pollNext ∉ k →
    (settle k s).remaining ≤ remaining s.cnt k
  | [], _, _, _, _ => Nat.le_refl _
  | st :: k, s, hbit, hclk, hpoll => by
    have ⟨hne, hk⟩ := List.ne_and_not_mem_of_not_mem_cons hpoll
    have keep {t : State} (ht : t.cnt = s.cnt) : (settle k t).remaining ≤ remaining s.cnt (st :: k) := by
      rw [← ht] at hbit hclk ⊢
      exact (remaining_settle hbit hclk hk).trans (remaining_tail_le hbit st k)
    cases st with
    | exec | execDataBit | execCupHi | execCupLo => exact Nat.le_refl _
    | sendNext v =>
      rw [settle_sendNext]
      split
      · exact keep rfl
      next hn =>
        rw [remaining_sendRound, Nat.sub_add_cancel (Nat.pos_of_ne_zero hn)]
        exact Nat.le_refl _
    | recvNext =>
      rw [settle_recvNext]
      split
      · exact keep rfl
      next hn =>
        rw [remaining_recvRound, Nat.sub_add_cancel (Nat.pos_of_ne_zero hn)]
        exact Nat.le_refl _
    | ackTest =>
      rw [settle_ackTest]
      split
      · exact Nat.zero_le _
      · exact keep rfl
    | recvOr =>
      rw [settle_recvOr]
      split <;> exact keep rfl
    | pulseStart =>
      rw [settle_pulseStart, remaining_pulseRound]
      exact (Nat.add_assoc 4 32 _).symm.le
    | pulseNext =>
      rw [settle_pulseNext]
      split
      · exact keep rfl
      next hn =>
        have hlt : s.cnt.clkcnt < 9 := Nat.lt_of_le_of_ne hclk hn
        rw [remaining_pulseRound]
        show _ ≤ 4 * (9 - s.cnt.clkcnt) + remaining .fresh k
        omega
    | pollNext => exact absurd rfl hne
    | checksum =>
      rw [settle_checksum]
      split
      · exact keep rfl
      · exact Nat.zero_le _
    | recvDone | hiFromRxb | loFromRxb | chkFromRxb | saveTemperature | deliverPair | markOpened => exact keep rfl
    | callTstart => exact remaining_beginTstart hbit
    | callSendByte v => exact (remaining_beginSendByte v).le
    | callRecvByte ack => exact (remaining_beginRecvByte ack).le
    | callAwaitRead => exact remaining_beginAwaitRead
    | callRead q => exact remaining_beginRead hbit q

/-- Nor does the end of a poll attempt, which is one of the 62. -/
theorem remaining_settle_pollNext {k : List Stmt} {s : State} (hbit : s.cnt.bitcnt ≤ 7) (hclk : s.cnt.clkcnt ≤ 9)
    (hn : s.cnt.attempt < Config.nPoll) (hk : .pollNext ∉ k) :
    (settle (.pollNext :: k) s).remaining ≤ remaining s.cnt (.pollNext :: k) := by
  rw [settle_pollNext]
  split
  · exact remaining_pollTop (s := setCnt { s.cnt with attempt := s.cnt.attempt + 1 } s) hn
  · have hrest := remaining_settle (s := setCnt { s.cnt with attempt := s.cnt.attempt + 1 } s) hbit hclk hk
    have hfresh := remaining_le_fresh (c := { s.cnt with attempt := s.cnt.attempt + 1 }) hbit k
    exact (hrest.trans hfresh).trans (Nat.le_add_left _ _)

/-! ## Every step lowers it -/

/-- What follows a micro-operation takes no more than its lines say. -/
theorem Inv.remaining_rest {s t : State} {st : Stmt} {k : List Stmt} (h : Inv s) (hpc : s.seq.pc = st :: k)
    (ht : t.cnt = s.cnt) : (settle k t).remaining ≤ remaining s.cnt k := by
  obtain ⟨hbit, hclk, -⟩ := h.counters
  have hpos := position_of_positionLegal h.legal
  rw [hpc] at hpos
  rw [← ht] at hbit hclk ⊢
  cases hpos with
  | initWl | initCko | initCkl | initDtl | shutdown => exact remaining_settle hbit hclk (by decide)
  | transaction _ _ hk hp =>
    rw [← ht] at hp
    rcases rest_of_transaction hk hp with hplain | ⟨hn, k', hplain, rfl | rfl⟩
    · exact remaining_settle hbit hclk (by simpa using hplain.contains)
    · exact Nat.le_refl _
    · exact remaining_settle_pollNext hbit hclk hn (by simpa using hplain.contains)

theorem micro_of_isMicro {st : Stmt} (h : st.isMicro = true) (s : State) : ∃ u, Stmt.micro s st = some u := by
  cases st with
  | exec | execDataBit | execCupHi | execCupLo => exact ⟨_, rfl⟩
  | _ => cases h

theorem remaining_of_isMicro {s : State} {st : Stmt} {k : List Stmt} (hpc : s.seq.pc = st :: k)
    (h : st.isMicro = true) : s.remaining = 1 + remaining s.cnt k := by
  rw [State.remaining, hpc]
  cases st with
  | exec | execDataBit | execCupHi | execCupLo => rfl
  | _ => cases h

/-- A step of a command under way. -/
theorem Inv.remaining_step {s t : State} (h : Inv s) (hb : s.flags.busy = true) (hp : s.port = none)
    (hs : step s = .next t) : t.remaining < s.remaining ∧ t.port = none := by
  obtain ⟨st, k, hpc⟩ := List.exists_cons_of_ne_nil (h.busy_iff.1 hb)
  have hmicro := h.head_isMicro hpc
  obtain ⟨u, hu⟩ := micro_of_isMicro hmicro s
  rw [remaining_of_isMicro hpc hmicro, Nat.lt_one_add_iff]
  rcases step_under_way hb hp hpc hu hs with ⟨e, rfl⟩ | ⟨p, e, rfl⟩
  · exact ⟨h.remaining_rest hpc (microDone_cnt _ _),
      ((settle_sameWires k _).port.trans (microDone_port (u := u) _)).trans hp⟩
  · exact ⟨Nat.zero_le _, (microFailed_port _ _).trans hp⟩

/-- A command under way ends within the bound. -/
theorem Inv.ends : ∀ (n : Nat) {s : State}, Inv s → s.port = none → s.remaining ≤ n →
    ∃ m u, m ≤ n ∧ Runs m s u ∧ u.flags.busy = false
  | n, s, h, hp, hle => by
    cases hb : s.flags.busy with
    | false => exact ⟨0, s, Nat.zero_le _, rfl, hb⟩
    | true =>
      obtain ⟨t, hs⟩ := acceptedCommandIsNeverRefused s h hb hp
      obtain ⟨hlt, hport⟩ := h.remaining_step hb hp hs
      cases n with
      | zero => exact absurd (hlt.trans_le hle) (Nat.not_lt_zero _)
      | succ n =>
        obtain ⟨m, u, hm, hrun, hu⟩ :=
          Inv.ends n (invariantKeptByEveryStep s t h hs) hport (Nat.le_of_lt_succ (hlt.trans_le hle))
        exact ⟨m + 1, u, Nat.succ_le_succ hm, runs_succ hs hrun, hu⟩

/-! ## The bound of each command -/

theorem beginCommand_port (i : Instr) (s : State) : (beginCommand i s).port = s.port := by cases i <;> rfl

/-- The longest command is READ_ALL, with two acquisitions of 333 (R170). -/
theorem remaining_beginCommand {i : Instr} {s : State} (hi : i.layer = .command) (hbit : s.cnt.bitcnt ≤ 7)
    (hclk : s.cnt.clkcnt ≤ 9) : (beginCommand i s).remaining ≤ 666 := by
  have lines {k : List Stmt} {t : State} (ht : t.cnt = s.cnt) (hk : .pollNext ∉ k)
      (hle : remaining t.cnt k ≤ 666) : (settle k t).remaining ≤ 666 :=
    (remaining_settle (ht ▸ hbit) (ht ▸ hclk) hk).trans hle
  cases i with
  | initLines | shutdown | crcReset | crcUpdate | crcValue | crcVerify => exact Nat.le_of_ble_eq_true rfl
  | reset =>
    exact lines (k := [.exec .dth, .exec .ws, .pulseStart, .callTstart, .callSendByte Config.cmdSoftReset]) (t := s)
      rfl (by simp) (Nat.le_of_ble_eq_true rfl)
  | tstart => exact lines (k := [.callTstart]) (t := s) rfl (by simp) (Nat.le_of_ble_eq_true rfl)
  | sendByte v => exact lines (k := [.callSendByte v]) (t := s) rfl (by simp) (Nat.le_of_ble_eq_true rfl)
  | recvByte ack =>
    cases ack <;> exact lines (k := [.callRecvByte _]) (t := s) rfl (by simp) (Nat.le_of_ble_eq_true rfl)
  | startMeas q =>
    exact lines (k := [.callTstart, .callSendByte (mtByte q)]) (t := s) rfl (by simp) (Nat.le_of_ble_eq_true rfl)
  | awaitRead => exact lines (k := [.callAwaitRead]) (t := s) rfl (by simp) (Nat.le_of_ble_eq_true rfl)
  | read q => exact lines (k := [.callRead q]) (t := s) rfl (by simp) (Nat.le_of_ble_eq_true rfl)
  | readAll =>
    exact lines (k := [.callRead .temperature, .saveTemperature, .callRead .humidity, .deliverPair])
      (t := setValValid false (setPairValid false s)) rfl (by simp) (Nat.le_of_ble_eq_true rfl)
  | _ => cases hi

/-- Settles O54: acceptance sets the bound, and every step lowers it. -/
theorem everyCommandEnds : Obligations.EveryCommandEnds := by
  unfold Obligations.EveryCommandEnds
  intro s t i h hp hi hexec
  obtain ⟨-, ho, rfl⟩ := exec_command_next hi hexec
  obtain ⟨hbit, hclk, -⟩ := h.counters
  exact (inv_beginCommand hi h.bounded ho).ends 666 ((beginCommand_port i _).trans hp)
    (remaining_beginCommand (s := accept s) hi hbit hclk)

end Sys2Proof.Machine
end

section
/-! READ and READ_ALL (43_orchestrator.md). READ is START_MEAS and then AWAIT_READ; each of its ends, the value and the
three errors, is a run of the line that calls it, so READ_ALL puts its two acquisitions together from the same runs. -/

namespace Sys2Proof.Machine

/-! ## READ delivers its value -/

/-- READ before the comparison, its command byte acknowledged and ready on attempt `k` (R200). -/
def framesMeasured (q : Quantity) (k : Nat) (hi lo chk : Byte) (e : Env) (s : State) : State :=
  { s with
    clk := .low
    dat := .released
    regs := { s.regs with crc := crcFold 0x00 [mtByte q, hi, lo], rxb := chk, hi := hi, lo := lo, chk := chk }
    cnt := { s.cnt with bitcnt := 0, attempt := k }
    flags := { s.flags with rxValid := true, valValid := false }
    seq := { s.seq with d := chk.getLsbD 0 }
    env := e
    delays := { s.delays with short := s.delays.short + 88, poll := s.delays.poll + k } }

/-- The accumulator of AWAIT_READ is the command byte's (R150). -/
theorem framesAwaited_measStarted (q : Quantity) (k : Nat) (hi lo chk : Byte) (e e' : Env) (s : State) :
    framesAwaited k hi lo chk e' (measStarted q e (setValValid false s)) = framesMeasured q k hi lo chk e' s := rfl

/-- The state READ ends in, its checksum matching. -/
def valueRead (q : Quantity) (k : Nat) (hi lo chk : Byte) (e : Env) (s : State) : State :=
  deliverValue (framesMeasured q k hi lo chk e s)

theorem leads_callRead (q : Quantity) (s : State) :
    Leads 0 [.callRead q] s [.callTstart, .callSendByte (mtByte q), .callAwaitRead] (setValValid false s) :=
  fun _ => rfl

/-- READ up to its call of AWAIT_READ, the command byte acknowledged. -/
theorem leads_readStart {s : State} (h : Live s) (q : Quantity) {more : List Pull} (ht : Tape (.pullLow :: more) s) :
    ∃ e, Tape more (measStarted q e (setValValid false s)) ∧ Live (measStarted q e (setValValid false s)) ∧
      Leads 71 [.callRead q] s [.callAwaitRead] (measStarted q e (setValValid false s)) := by
  obtain ⟨e, hmore, hlive, hstart⟩ := leads_startMeas (s := setValValid false s) { h with } q ht
  exact ⟨e, hmore, hlive, (leads_callRead q s).trans (hstart.append [.callAwaitRead])⟩

section

variable {s : State} {q : Quantity} {k : Nat} {hi lo chk : Byte} {more : List Pull} (h : Live s) (hk : 1 ≤ k)
  (hk' : k ≤ 62) (ht : Tape (.pullLow :: readoutTape k hi lo chk ++ more) s)
include h hk hk' ht

theorem leads_readFrames :
    ∃ e, Tape more (framesMeasured q k hi lo chk e s) ∧ Live (framesMeasured q k hi lo chk e s) ∧
      Leads (2 * k + 209) [.callRead q] s [.checksum] (framesMeasured q k hi lo chk e s) := by
  obtain ⟨e₁, hmore₁, hlive₁, hstart⟩ := leads_readStart h q (more := readoutTape k hi lo chk ++ more) ht
  obtain ⟨e₂, hmore₂, hlive₂, hframes⟩ := leads_awaitFrames hlive₁ rfl hk hk' hmore₁
  rw [awaited_eq, framesAwaited_measStarted] at hmore₂ hlive₂ hframes
  have hcount : 2 * k + 209 = 71 + (2 * k + 138) := by omega
  rw [hcount]
  exact ⟨e₂, hmore₂, hlive₂, hstart.trans hframes⟩

theorem leads_read (hchk : chk = mirror8 (crcFold 0x00 [mtByte q, hi, lo])) :
    ∃ e, Tape more (valueRead q k hi lo chk e s) ∧ Live (valueRead q k hi lo chk e s) ∧
      Leads (2 * k + 209) [.callRead q] s [] (valueRead q k hi lo chk e s) := by
  obtain ⟨e, hmore, hlive, hframes⟩ := leads_readFrames (q := q) h hk hk' ht
  exact ⟨e, hmore, { hlive with }, hframes.trans (leads_checksum (s := framesMeasured q k hi lo chk e s) hchk)⟩

/-- READ with a wrong checksum ends the command after the three frames. -/
theorem ends_read_mismatch (hchk : chk ≠ mirror8 (crcFold 0x00 [mtByte q, hi, lo])) :
    ∃ e, Tape more (framesMeasured q k hi lo chk e s) ∧ LineOk (framesMeasured q k hi lo chk e s) ∧
      Ends (2 * k + 209) [.callRead q] s
        (abort .checksumMismatch (setCrcOk false (framesMeasured q k hi lo chk e s))) := by
  obtain ⟨e, hmore, hlive, hframes⟩ := leads_readFrames (q := q) h hk hk' ht
  exact ⟨e, hmore, hlive.lineOk, hframes.ends (ends_checksum (s := framesMeasured q k hi lo chk e s) hchk)⟩

end

/-- Settles O43, by the run of READ with a matching checksum. -/
theorem readCompletes : Obligations.ReadCompletes := by
  unfold Obligations.ReadCompletes
  intro s q k hi lo chk more hr hl hk hk' hchk ht
  obtain ⟨e, hmore, hlive, hread⟩ := leads_read (hr.live_accept hl) hk hk' ht hchk
  have hend : complete (valueRead q k hi lo chk e (accept s)) = valueRead q k hi lo chk e (complete (accept s)) := rfl
  refine ⟨_, _, hr.exec_command rfl, hread.runs, ?_, hmore, hlive.lineOk⟩
  rw [hend, complete_accept hr.busy_eq_false]
  rfl

/-! ## READ_ALL delivers the pair -/

theorem leads_saveTemperature (s : State) : Leads 0 [.saveTemperature] s [] (setTemp s.regs.val s) := fun _ => rfl

/-- The pair delivered: the temperature from the local `t`, the humidity from `VAL` (R201). -/
def deliverPair (s : State) : State :=
  setPairValid true (setRegs { s.regs with rawT := s.seq.t, rawH := s.regs.val } s)

theorem leads_deliverPair (s : State) : Leads 0 [.deliverPair] s [] (deliverPair s) := fun _ => rfl

/-- READ_ALL accepted, before its first acquisition (R201). -/
def pairRequested (s : State) : State := setValValid false (setPairValid false s)

/-- Settles O44: the temperature's run of READ, its value saved in `t`, and the humidity's. -/
theorem readAllCompletes : Obligations.ReadAllCompletes := by
  unfold Obligations.ReadAllCompletes
  intro s kT kH hiT loT chkT hiH loH chkH more hr hl hkT hkT' hkH hkH' hchkT hchkH ht
  have hlive := hr.live_accept hl
  rw [List.append_assoc] at ht
  obtain ⟨e₁, hmore₁, hlive₁, hreadT⟩ := leads_read (s := pairRequested (accept s)) { hlive with } hkT hkT' ht hchkT
  obtain ⟨e₂, hmore₂, hlive₂, hreadH⟩ := leads_read
    (s := setTemp (hiT ++ loT) (valueRead .temperature kT hiT loT chkT e₁ (pairRequested (accept s))))
    { hlive₁ with } hkH hkH' hmore₁ hchkH
  have hboth := hreadT.seq ((leads_saveTemperature _).seq (hreadH.seq (leads_deliverPair _)))
  have hcount : 2 * kT + 209 + (0 + (2 * kH + 209 + 0)) = 2 * (kT + kH) + 418 := by omega
  have hend : complete (deliverPair (valueRead .humidity kH hiH loH chkH e₂ (setTemp (hiT ++ loT)
        (valueRead .temperature kT hiT loT chkT e₁ (pairRequested (accept s)))))) =
      deliverPair (valueRead .humidity kH hiH loH chkH e₂ (setTemp (hiT ++ loT)
        (valueRead .temperature kT hiT loT chkT e₁ (pairRequested (complete (accept s)))))) := rfl
  rw [hcount] at hboth
  refine ⟨_, _, hr.exec_command rfl, hboth.runs, ?_, hmore₂, hlive₂.lineOk⟩
  rw [hend, complete_accept hr.busy_eq_false]
  rfl

/-! ## READ ends with an error -/

/-- READ not acknowledged ends the command at the sample. -/
theorem ends_read_unacknowledged {s : State} (h : Live s) (q : Quantity) {more : List Pull}
    (ht : Tape (.float :: more) s) :
    ∃ e, Tape more (unmeasured e (setValValid false s)) ∧ LineOk (unmeasured e (setValValid false s)) ∧
      Ends 68 [.callRead q] s (abort .notAcknowledged (unmeasured e (setValValid false s))) := by
  obtain ⟨e, hmore, hok, hstart⟩ := ends_startMeas (s := setValValid false s) { h with } q ht
  have hend := (leads_callRead q s).ends (hstart.append [.callAwaitRead])
  rw [Nat.zero_add] at hend
  exact ⟨e, hmore, hok, hend⟩

/-- The end of a HIGH attempt that was the last raises the timeout (R168 b). -/
theorem ends_pollNext {s : State} (hd : s.seq.d = true) (hn : s.cnt.attempt + 1 = Config.nPoll) :
    Ends 0 [.pollNext] s (abort .timeout (setCnt { s.cnt with attempt := s.cnt.attempt + 1 } s)) := fun k => by
  simp [settle_pollNext, pollTop, hd, hn, Runs]

/-- The poll loop that finds DATA HIGH in every attempt left. -/
theorem ends_poll {s : State} (n : Nat) {more : List Pull} (h : Live s) (hd : s.dat = .released)
    (hn : s.cnt.attempt + (n + 1) = Config.nPoll) (ht : Tape (List.replicate (n + 1) .float ++ more) s) :
    ∃ e, Tape more (polled (n + 1) true e s) ∧ LineOk (polled (n + 1) true e s) ∧
      Ends (2 * (n + 1)) pollRound s (abort .timeout (polled (n + 1) true e s)) := by
  rw [List.replicate_succ', List.append_assoc] at ht
  obtain ⟨d, e₁, hmore₁, hlive₁, hrounds⟩ := leads_pollRounds n h hd (by omega) ht
  obtain ⟨e₂, hmore₂, hlive₂, hsample⟩ := leads_pollSample hlive₁ hd hmore₁
  have hlast : Ends (2 + 0) pollRound (polled n d e₁ s) (abort .timeout (polled 1 true e₂ (polled n d e₁ s))) :=
    hsample.seq_ends (ends_pollNext rfl hn)
  rw [polled_polled] at hlast
  exact ⟨e₂, hmore₂, hlive₂.lineOk, hrounds.ends hlast⟩

/-- The state after the 62 samples of an AWAIT_READ that times out. -/
def unready (e : Env) (s : State) : State :=
  polled 62 true e (setCnt { s.cnt with attempt := 0 } (setValValid false s))

/-- AWAIT_READ of a sensor that is never ready ends the command after 62 attempts. -/
theorem ends_awaitRead_timeout {s : State} (h : Live s) (hd : s.dat = .released) {more : List Pull}
    (ht : Tape (List.replicate 62 .float ++ more) s) :
    ∃ e, Tape more (unready e s) ∧ LineOk (unready e s) ∧
      Ends 124 [.callAwaitRead] s (abort .timeout (unready e s)) := by
  have hcall : Leads 0 [.callAwaitRead] s (pollRound ++ readout)
      (setCnt { s.cnt with attempt := 0 } (setValValid false s)) := fun _ => rfl
  obtain ⟨e, hmore, hok, hpoll⟩ := ends_poll (s := setCnt { s.cnt with attempt := 0 } (setValValid false s)) 61
    { h with } hd rfl ht
  exact ⟨e, hmore, hok, hcall.ends (hpoll.append readout)⟩

/-- The state after the 62 samples of a READ that times out. -/
def unreadyMeasured (q : Quantity) (e : Env) (s : State) : State := unready e (measStarted q e (setValValid false s))

/-- READ acknowledged by a sensor that is never ready ends the command after 62 attempts. -/
theorem ends_read_timeout {s : State} (h : Live s) (q : Quantity) {more : List Pull}
    (ht : Tape (.pullLow :: List.replicate 62 .float ++ more) s) :
    ∃ e, Tape more (unreadyMeasured q e s) ∧ LineOk (unreadyMeasured q e s) ∧
      Ends 195 [.callRead q] s (abort .timeout (unreadyMeasured q e s)) := by
  obtain ⟨e₁, hmore₁, hlive, hstart⟩ := leads_readStart h q (more := List.replicate 62 Pull.float ++ more) ht
  obtain ⟨e₂, hmore₂, hok, hend⟩ := ends_awaitRead_timeout hlive rfl hmore₁
  exact ⟨e₂, hmore₂, hok, hstart.ends hend⟩

/-! ## READ_ALL stops at the temperature -/

/-- Settles O45: an error of the temperature's READ ends the command, whatever lines are left. -/
theorem readAllStopsAtTemperature : Obligations.ReadAllStopsAtTemperature := by
  unfold Obligations.ReadAllStopsAtTemperature
  intro s k hi lo chk more hr hl hk hk'
  have hlive : Live (pairRequested (accept s)) := { hr.live_accept hl with }
  have hrun {n : Nat} {u : State} (h : Ends n [.callRead .temperature] (pairRequested (accept s)) u) :
      Runs n (beginCommand .readAll (accept s)) u := h [.saveTemperature, .callRead .humidity, .deliverPair]
  have hexec := hr.exec_command (i := .readAll) rfl
  refine ⟨fun hchk ht => ?mismatch, fun ht => ?unacknowledged, fun ht => ?timeout⟩
  case mismatch =>
    obtain ⟨e, hmore, -, hend⟩ := ends_read_mismatch hlive hk hk' ht hchk
    exact ⟨_, _, hexec, hrun hend, rfl, rfl, rfl, rfl, rfl, rfl, rfl, rfl, hmore⟩
  case unacknowledged =>
    obtain ⟨e, hmore, -, hend⟩ := ends_read_unacknowledged hlive .temperature ht
    exact ⟨_, _, hexec, hrun hend, rfl, rfl, rfl, rfl, rfl, rfl, rfl, hmore⟩
  case timeout =>
    obtain ⟨e, hmore, -, hend⟩ := ends_read_timeout hlive .temperature ht
    exact ⟨_, _, hexec, hrun hend, rfl, rfl, rfl, rfl, rfl, rfl, rfl, rfl, hmore⟩

end Sys2Proof.Machine
end

section
/-! Errors and refusals (60_exceptions.md): the abort, the situations in which a command is refused, and the timeout of
AWAIT_READ, alone and inside READ. -/

namespace Sys2Proof.Machine

/-! ## The abort -/

/-- Settles O19: the payload is the one each kind of error carries, the rest is what the abort writes. -/
theorem abortWritesExactlyThis : Obligations.AbortWritesExactlyThis := by
  unfold Obligations.AbortWritesExactlyThis
  intro r s
  cases r <;> rfl

/-! ## Refusals -/

/-- A word on the port of a busy block is refused (R238 a). -/
theorem step_of_port_busy {s : State} {w : Half} (hb : s.flags.busy = true) (hp : s.port = some w) :
    step s = .refused .commandWhileBusy := by
  simp [step, fetch, hb, hp]

/-- A busy block accepts no command (R238 a). -/
theorem exec_command_busy {i : Instr} {s : State} (hi : i.layer = .command) (hb : s.flags.busy = true) :
    exec i s = .refused .commandWhileBusy := by
  rw [exec_command hi]
  split <;> simp [startBusCommand, startCommand, hb]

/-- R238 (b)'s list of the commands it refuses. -/
theorem Instr.needsLines_iff {i : Instr} : Instr.needsLines i = true ↔
    i ∈ [Instr.reset, .tstart, .awaitRead, .readAll] ∨ (∃ v, i = .sendByte v) ∨ (∃ a, i = .recvByte a) ∨
      (∃ q, i = .startMeas q) ∨ (∃ q, i = .read q) := by
  cases i <;> simp [Instr.needsLines]

/-- Only commands are gated by `OPENED`. -/
theorem Instr.layer_of_needsLines {i : Instr} (h : Instr.needsLines i = true) : i.layer = .command := by
  cases i with
  | reset | tstart | sendByte | recvByte | startMeas | awaitRead | read | readAll => rfl
  | _ => cases h

/-- A command that needs the lines is refused while they are not opened (R238 b). -/
theorem exec_needsLines_closed {i : Instr} {s : State} (hn : Instr.needsLines i = true) (hb : s.flags.busy = false)
    (ho : s.flags.opened = false) : exec i s = .refused .linesNotOpened := by
  rw [exec_command (Instr.layer_of_needsLines hn)]
  simp [hn, startBusCommand, hb, ho]

/-- The commands that R238 (b) accepts whether the lines are opened or not. -/
theorem Instr.needsNoLines_iff {i : Instr} : i.layer = .command ∧ Instr.needsLines i = false ↔
    i ∈ [Instr.initLines, .shutdown, .crcReset, .crcValue] ∨ (∃ v, i = .crcUpdate v) ∨ (∃ v, i = .crcVerify v) := by
  cases i <;> simp [Instr.needsLines, Instr.layer]

/-- Settles O23: the commands fall into those that need the lines opened and the others. -/
theorem refusedSituations : Obligations.RefusedSituations := by
  unfold Obligations.RefusedSituations
  intro s i
  refine ⟨fun hb _ hp => step_of_port_busy hb hp, fun hb hi => exec_command_busy hi hb,
    fun hb ho hi => exec_needsLines_closed (Instr.needsLines_iff.2 hi) hb ho, fun hb hi => ?accepted,
    fun _ hb hp hw => step_of_reserved hb hp hw⟩
  case accepted =>
    obtain ⟨hcommand, hlines⟩ := Instr.needsNoLines_iff.2 hi
    exact ⟨_, exec_command_idle hcommand hlines hb⟩

/-! ## The timeout of AWAIT_READ -/

/-- The timeout's end of AWAIT_READ, from the state that an abort at once would end in. -/
theorem abort_unready (e : Env) (s : State) : abort .timeout (unready e s) = unready e (abort .timeout s) := rfl

/-- The timeout's end of READ, likewise. -/
theorem abort_unreadyMeasured (q : Quantity) (e : Env) (s : State) :
    abort .timeout (unreadyMeasured q e s) = unreadyMeasured q e (abort .timeout s) := rfl

theorem unready_delays (e : Env) (s : State) :
    (unready e s).delays = { s.delays with poll := s.delays.poll + 62 } := rfl

/-- 62 poll delays of 5 ms are 310 ms (R270). -/
theorem elapsedAtLeast_unready (e : Env) (s : State) : elapsedAtLeast (unready e s) = elapsedAtLeast s + 310000000 := by
  simp only [elapsedAtLeast, unready_delays, Config.tPollNs]
  omega

/-- Settles O42: the runs that end in the timeout, and the time the 62 poll delays take. -/
theorem awaitReadTimesOut : Obligations.AwaitReadTimesOut := by
  unfold Obligations.AwaitReadTimesOut
  intro s more hr hl
  have hlive := hr.live_accept hl
  have herror := abort_accept hr.busy_eq_false .timeout
  refine ⟨fun hd ht => ?await, fun q ht => ?read⟩
  case await =>
    obtain ⟨e, hmore, hok, hend⟩ := ends_awaitRead_timeout hlive hd ht
    refine ⟨_, _, hr.exec_command rfl, hend.runs, ?_, hmore, hok, elapsedAtLeast_unready e (accept s)⟩
    rw [abort_unready, herror]
    rfl
  case read =>
    obtain ⟨e, hmore, hok, hend⟩ := ends_read_timeout hlive q ht
    refine ⟨_, _, hr.exec_command rfl, hend.runs, ?_, hmore, hok⟩
    rw [abort_unreadyMeasured, herror]
    rfl

end Sys2Proof.Machine
end
